-- ==== Sys2Proof/Word.lean ====
section
/-! DEFINITION. The word types of NEXA_OOK_CORE: the widths that 00_scope.md R10, R13 and 30_encoding.md R65 fix.
Every value is unsigned (R13). -/

namespace Sys2Proof

/-- A 32-bit register, frame or wire word (R48, R69, R71). -/
abbrev Word := BitVec 32

/-- A 64-bit microsecond timestamp; TS_WIDTH = 64 is fixed (R10, R66). -/
abbrev Stamp := BitVec 64

/-- A 4-bit condition word (R67). -/
abbrev Code := BitVec 4

/-- A 16-bit diagnostic counter or timing field; CNT_WIDTH = 16 is fixed (R10, R31). -/
abbrev Half := BitVec 16

end Sys2Proof
end

