-- ==== Sys2Proof/Config.lean ====
section
/-! DEFINITION. What an implementation or a platform fixes: the elaboration-time parameters (R10), the moves of the
environment (R5, R6, R44, R56), and the free environment that moves when nothing else has been placed. -/

namespace Sys2Proof

/-- The elaboration-time parameters of R10 that are open. TS_WIDTH and CNT_WIDTH are fixed by the types. -/
structure Params where
  /-- `SYNC_STAGES`: flip-flops in each synchroniser. -/
  syncStages : Nat
  /-- `COND_DEPTH`: capacity of the condition channel. -/
  condDepth : Nat
  /-- `FRAME_DEPTH`: capacity of the frame channel. -/
  frameDepth : Nat
  deriving DecidableEq, Repr, Inhabited

/-- The default values of R10. -/
def defaultParams : Params := { syncStages := 2, condDepth := 16, frameDepth := 4 }

/-- A power of two that is at least 2 (R10). -/
def isDepth (n : Nat) : Bool := 2 ≤ n && n &&& (n - 1) == 0

/-- The legal values of R10. -/
def legalParams (p : Params) : Bool := 2 ≤ p.syncStages && isDepth p.condDepth && isDepth p.frameDepth

/-- One host access as the bus presents it (R21, R77). -/
structure BusAccess where
  we : Bool
  off : BitVec 6
  wdata : Word
  deriving DecidableEq, Repr, Inhabited

/-- What the environment gives with one rising edge of `clk_rx`: the timestamp and the draws of the three
synchronisers that `clk_rx` views (R6, R44, R55, R56). A `keep` of true is the draw that keeps what stage 0 holds. -/
structure RxEdge where
  now : Stamp
  keepRxIn : Bool
  keepRxEn : Bool
  drawCcRead : Nat
  deriving DecidableEq, Repr, Inhabited

/-- What the environment gives with one rising edge of `clk_sys`: the timestamp, the host access if `bus_valid` is 1,
and the draws of the four synchronisers that `clk_sys` views. -/
structure SysEdge where
  now : Stamp
  bus : Option BusAccess
  keepActive : Bool
  drawDrop : Nat
  drawCcWrite : Nat
  drawFcRead : Nat
  deriving DecidableEq, Repr, Inhabited

/-- What the environment gives with one rising edge of `clk_cons`: `frame_ready` and the draw of `fc.wsync`. -/
structure ConsEdge where
  ready : Bool
  drawFcWrite : Nat
  deriving DecidableEq, Repr, Inhabited

/-- The clock edges that fall at one instant: one domain's, or several when the platform ties clocks (R5, R100). -/
structure Tick where
  rx : Option RxEdge
  sys : Option SysEdge
  cons : Option ConsEdge
  deriving DecidableEq, Repr, Inhabited

/-- One move of the environment (R6): the radio receiver drives `rx_in`, the platform drives `rst` (R166), or clock
edges fall. -/
inductive Move where
  | line (level : Bool)
  | rst (level : Bool)
  | clock (t : Tick)
  deriving DecidableEq, Repr, Inhabited

/-- The environment's `n`-th move when none has been placed: the schedule, the inputs and the draws are arguments of
the step relation with no law (R5, R44, R56), so they are a FREE VALUE with no body. Assumption 2. -/
opaque Config.envMove : Nat → Move

end Sys2Proof
end

