-- ==== Sys2Proof/Syntax.lean ====
section
/-! DEFINITION. The operations of the block, one constructor for each row of spec/opcode_table.json (R79).
An operand `x` holds the bits of a code that the spec leaves as don't-care (R49, R68, R77). -/

namespace Sys2Proof

/-- The two channels (R30). -/
inductive ChanId where
  | cc
  | fc
  deriving DecidableEq, Repr

/-- An entry of a channel: 4 bits for `cc`, 32 bits for `fc` (R30, R99). -/
inductive ChanEntry where
  | cc (c : Code)
  | fc (w : Word)
  deriving DecidableEq, Repr

/-- The operations. -/
inductive Instr where
  -- classifier operations (R66)
  | edgeRise (t : Stamp)
  | edgeFall (t : Stamp)
  | pauseTimeout
  -- decoder operations: the consumption of one condition word (R67)
  | condMark
  | condSpace
  | condSync
  | condPause
  | condBadEdgeAfterStart
  | condBadEdgeAfterHigh
  | condBadEdgeAfterLow
  | condBadHighDuration
  | condBadLowDuration
  | condOverflow
  | condReserved101x (x : BitVec 1)
  | condReserved11xx (x : BitVec 2)
  -- host operations (R77); x is bus_off[1:0]
  | rdId (x : BitVec 2)
  | wrId (x : BitVec 2) (v : Word)
  | rdCtrl (x : BitVec 2)
  | wrCtrl (x : BitVec 2) (v : Word)
  | rdStatus (x : BitVec 2)
  | wrStatus (x : BitVec 2) (v : Word)
  | rdIrqStatus (x : BitVec 2)
  | wrIrqStatus (x : BitVec 2) (v : Word)
  | rdIrqEnable (x : BitVec 2)
  | wrIrqEnable (x : BitVec 2) (v : Word)
  | rdTiming0 (x : BitVec 2)
  | wrTiming0 (x : BitVec 2) (v : Word)
  | rdTiming1 (x : BitVec 2)
  | wrTiming1 (x : BitVec 2) (v : Word)
  | rdRxcfg (x : BitVec 2)
  | wrRxcfg (x : BitVec 2) (v : Word)
  | rdTxData (x : BitVec 2)
  | wrTxData (x : BitVec 2) (v : Word)
  | rdCondDropCnt (x : BitVec 2)
  | wrCondDropCnt (x : BitVec 2) (v : Word)
  | rdDecStats (x : BitVec 2)
  | wrDecStats (x : BitVec 2) (v : Word)
  -- the write of CTRL that starts a telegram (R79, R127)
  | txStart (x : BitVec 2) (v : Word)
  -- offsets that hold no register (R147); for 0x30 to 0x3C, x is bus_off[3:0]
  | rdUnmapped2c (x : BitVec 2)
  | rdUnmapped30to3c (x : BitVec 4)
  | wrUnmapped2c (x : BitVec 2) (v : Word)
  | wrUnmapped30to3c (x : BitVec 4) (v : Word)
  -- consumer, transmitter and channel operations (R79)
  | framePop
  | txSegment
  | chPush (e : ChanEntry)
  | chPop (ch : ChanId)
  deriving DecidableEq, Repr

end Sys2Proof
end

