-- ==== Sys2Proof/WellFormed.lean ====
section
/-! DEFINITION. Which operations are well formed. Operand widths are in the types, so one check is left: the rows
WR_CTRL and TX_START share one BUS code and are told apart by `wdata[1]` (R79, R127, R137). -/

namespace Sys2Proof

/-- A BUS write to CTRL is `txStart` exactly when `wdata[1]` is 1 (R79). -/
def wellFormed (i : Instr) : Bool :=
  match i with
  | .wrCtrl _ v => !v.getLsbD 1
  | .txStart _ v => v.getLsbD 1
  | _ => true

end Sys2Proof
end

