-- ==== Sys2Proof/Decode.lean ====
section
/-! DEFINITION. The formats of 30_encoding.md (R65 to R68, R77) and their decoder and encoder. The block has no
instruction stream: a word is read from a port, and the port fixes its width (R65). -/

namespace Sys2Proof

/-- The ports an operation word can be read from. -/
inductive Port where
  | edge
  | cond
  | bus
  | cons
  deriving DecidableEq, Repr

/-- A word of one of the fixed-width formats of R65, with the port that carries it. `edge` is `(level, t)` with level in
bit 64; `bus` is the 7-bit access code of R77 and the write data; `cons` is the wire `frame_ready`. -/
inductive PortWord where
  | edge (w : BitVec 65)
  | cond (c : Code)
  | bus (code : BitVec 7) (wdata : Word)
  | cons (ready : Bool)
  deriving DecidableEq, Repr

/-- The port of a word. -/
def PortWord.port (w : PortWord) : Port :=
  match w with
  | .edge _ => .edge
  | .cond _ => .cond
  | .bus _ _ => .bus
  | .cons _ => .cons

/-- Why a word names no operation. -/
inductive DecodeError where
  /-- `frame_ready` = 0: the consumer asks for nothing (R108). Safe: the step does nothing for that port. -/
  | noConsumerRequest
  deriving DecidableEq, Repr

/-- EDGE: level 1 is a rising edge, level 0 a falling one (R66). -/
def decodeEdge (w : BitVec 65) : Instr :=
  if w.getLsbD 64 then .edgeRise (w.setWidth 64) else .edgeFall (w.setWidth 64)

/-- COND: the sixteen codes of R67. -/
def decodeCond (c : Code) : Instr :=
  match c.toNat with
  | 0 => .condMark
  | 1 => .condSpace
  | 2 => .condSync
  | 3 => .condPause
  | 4 => .condBadEdgeAfterStart
  | 5 => .condBadEdgeAfterHigh
  | 6 => .condBadEdgeAfterLow
  | 7 => .condBadHighDuration
  | 8 => .condBadLowDuration
  | 9 => .condOverflow
  | 10 => .condReserved101x 0#1
  | 11 => .condReserved101x 1#1
  | _ => .condReserved11xx (c.setWidth 2)

/-- BUS read: the register that `off[5:2]` selects (R46, R49, R133). -/
def decodeRead (off : BitVec 6) : Instr :=
  let x := off.setWidth 2
  match (off >>> 2).toNat with
  | 0 => .rdId x
  | 1 => .rdCtrl x
  | 2 => .rdStatus x
  | 3 => .rdIrqStatus x
  | 4 => .rdIrqEnable x
  | 5 => .rdTiming0 x
  | 6 => .rdTiming1 x
  | 7 => .rdRxcfg x
  | 8 => .rdTxData x
  | 9 => .rdCondDropCnt x
  | 10 => .rdDecStats x
  | 11 => .rdUnmapped2c x
  | _ => .rdUnmapped30to3c (off.setWidth 4)

/-- BUS write (R46, R49, R134); a write of CTRL with `wdata[1]` = 1 is TX_START (R79). -/
def decodeWrite (off : BitVec 6) (v : Word) : Instr :=
  let x := off.setWidth 2
  match (off >>> 2).toNat with
  | 0 => .wrId x v
  | 1 => if v.getLsbD 1 then .txStart x v else .wrCtrl x v
  | 2 => .wrStatus x v
  | 3 => .wrIrqStatus x v
  | 4 => .wrIrqEnable x v
  | 5 => .wrTiming0 x v
  | 6 => .wrTiming1 x v
  | 7 => .wrRxcfg x v
  | 8 => .wrTxData x v
  | 9 => .wrCondDropCnt x v
  | 10 => .wrDecStats x v
  | 11 => .wrUnmapped2c x v
  | _ => .wrUnmapped30to3c (off.setWidth 4) v

/-- BUS: bit 6 of the access code is `we`, bits 5:0 are the byte offset; `wdata` is ignored on a read (R77). -/
def decodeBus (code : BitVec 7) (wdata : Word) : Instr :=
  if code.getLsbD 6 then decodeWrite (code.setWidth 6) wdata else decodeRead (code.setWidth 6)

/-- The decoder: total on every word of every port. -/
def decode (w : PortWord) : Except DecodeError Instr :=
  match w with
  | .edge e => .ok (decodeEdge e)
  | .cond c => .ok (decodeCond c)
  | .bus code wdata => .ok (decodeBus code wdata)
  | .cons true => .ok .framePop
  | .cons false => .error .noConsumerRequest

/-! ## The numbering of spec/opcode_table.json -/

/-- The word that the table's number `w` of `nbits` bits stands for. The table gives COND rows 4 bits, BUS rows 7 bits
and EDGE rows 65 bits; a BUS write's `wdata` counts on from the next whole byte. In one byte the numbers 0 to 15 are both
a COND code and a BUS code: this reads them as COND (assumption 9). -/
def tableWord (nbits w : Nat) : Option PortWord :=
  if nbits ≤ 8 then
    if w < 16 then some (.cond (BitVec.ofNat 4 w))
    else if w < 128 then some (.bus (BitVec.ofNat 7 w) 0#32)
    else none
  else if nbits ≤ 40 then
    if w % 256 < 128 && w < 2 ^ 40 then some (.bus (BitVec.ofNat 7 w) (BitVec.ofNat 32 (w / 256)))
    else none
  else if nbits ≤ 72 then
    if w < 2 ^ 65 then some (.edge (BitVec.ofNat 65 w)) else none
  else none

/-- What the decoder reads from a table number. -/
def decodeTableWord (nbits w : Nat) : Option Instr :=
  match tableWord nbits w with
  | none => none
  | some p =>
    match decode p with
    | .ok i => some i
    | .error _ => none

/-! ## The encoder, written from the same tables -/

/-- The access code of R77: `we`, the four slot bits and the two ignored bits. -/
def busCode (we : BitVec 1) (slot : BitVec 4) (x : BitVec 2) : BitVec 7 := we ++ slot ++ x

/-- The access code of the slots 0x30 to 0x3C, whose four low bits are don't-care in the table. -/
def busCodeHigh (we : BitVec 1) (x : BitVec 4) : BitVec 7 := we ++ 0b11#2 ++ x

/-- A BUS read of a slot; it carries no write data. -/
def readWord (slot : BitVec 4) (x : BitVec 2) : PortWord := .bus (busCode 0#1 slot x) 0#32

/-- A BUS write of a slot. -/
def writeWord (slot : BitVec 4) (x : BitVec 2) (v : Word) : PortWord := .bus (busCode 1#1 slot x) v

/-- The encoder. `none` for the four operations that the table gives no encoding: PAUSE_TIMEOUT, TX_SEGMENT, CH_PUSH and
CH_POP are raised inside the block (R79). -/
def encode (i : Instr) : Option PortWord :=
  match i with
  | .edgeRise t => some (.edge (1#1 ++ t))
  | .edgeFall t => some (.edge (0#1 ++ t))
  | .pauseTimeout => none
  | .condMark => some (.cond 0b0000#4)
  | .condSpace => some (.cond 0b0001#4)
  | .condSync => some (.cond 0b0010#4)
  | .condPause => some (.cond 0b0011#4)
  | .condBadEdgeAfterStart => some (.cond 0b0100#4)
  | .condBadEdgeAfterHigh => some (.cond 0b0101#4)
  | .condBadEdgeAfterLow => some (.cond 0b0110#4)
  | .condBadHighDuration => some (.cond 0b0111#4)
  | .condBadLowDuration => some (.cond 0b1000#4)
  | .condOverflow => some (.cond 0b1001#4)
  | .condReserved101x x => some (.cond (0b101#3 ++ x))
  | .condReserved11xx x => some (.cond (0b11#2 ++ x))
  | .rdId x => some (readWord 0 x)
  | .wrId x v => some (writeWord 0 x v)
  | .rdCtrl x => some (readWord 1 x)
  | .wrCtrl x v => some (writeWord 1 x v)
  | .rdStatus x => some (readWord 2 x)
  | .wrStatus x v => some (writeWord 2 x v)
  | .rdIrqStatus x => some (readWord 3 x)
  | .wrIrqStatus x v => some (writeWord 3 x v)
  | .rdIrqEnable x => some (readWord 4 x)
  | .wrIrqEnable x v => some (writeWord 4 x v)
  | .rdTiming0 x => some (readWord 5 x)
  | .wrTiming0 x v => some (writeWord 5 x v)
  | .rdTiming1 x => some (readWord 6 x)
  | .wrTiming1 x v => some (writeWord 6 x v)
  | .rdRxcfg x => some (readWord 7 x)
  | .wrRxcfg x v => some (writeWord 7 x v)
  | .rdTxData x => some (readWord 8 x)
  | .wrTxData x v => some (writeWord 8 x v)
  | .rdCondDropCnt x => some (readWord 9 x)
  | .wrCondDropCnt x v => some (writeWord 9 x v)
  | .rdDecStats x => some (readWord 10 x)
  | .wrDecStats x v => some (writeWord 10 x v)
  | .txStart x v => some (writeWord 1 x v)
  | .rdUnmapped2c x => some (readWord 11 x)
  | .rdUnmapped30to3c x => some (.bus (busCodeHigh 0#1 x) 0#32)
  | .wrUnmapped2c x v => some (writeWord 11 x v)
  | .wrUnmapped30to3c x v => some (.bus (busCodeHigh 1#1 x) v)
  | .framePop => some (.cons true)
  | .txSegment => none
  | .chPush _ => none
  | .chPop _ => none

end Sys2Proof
end

