-- ==== Sys2Proof/Machine/State.lean ====
section
/-! DEFINITION. The state of the block as plain data: every element of 10_state.md, the ports of R21, and the model's own
fields (the fairness record of R57 and the environment's pending moves). The block has no byte-addressed memory (R45). -/

namespace Sys2Proof.Machine

/-- Why a step stops. The block itself never stops (R151): both reasons stand for a broken precondition of a channel
primitive, which no reachable state meets (R102). -/
inductive Fault where
  /-- CH_PUSH asked for by hand on a channel its writer sees full. R99: "A push is never attempted on a channel the
  writer sees full". Raised by `execChPush` only. Safe: the spec gives this no effect. -/
  | pushWhileFull (ch : ChanId)
  /-- A pop whose reader's view shows an entry where the storage holds none. R102 shows that no reachable state does
  this. Raised by a pop of the decoder, of the consumer port or of CH_POP. Safe. -/
  | popWithoutEntry (ch : ChanId)
  deriving DecidableEq, Repr

/-- Why an operation has no meaning. -/
inductive Refusal where
  /-- An arm of `exec` whose operation is not modelled; no arm answers with it. Safe. -/
  | notModelled (mnemonic : String)
  deriving DecidableEq, Repr

/-- `det_state` (R25). The code 2'b11 is never written and need not be represented (R169). -/
inductive DetState where
  | waitBitStart
  | waitHighToLow
  | waitLowDecision
  deriving DecidableEq, Repr

/-- `dec_state` (R34). -/
inductive DecState where
  | waitSync
  | waitBitStart
  | waitSpace
  | waitMark
  deriving DecidableEq, Repr

/-- The receive-side state, domain `clk_rx` (R22 to R29). A synchroniser is the list of its stages, stage 0 first. -/
structure Rx where
  /-- `rx_sync` (R22). -/
  sync : List Bool
  /-- `rx_en_s` (R23). -/
  enSync : List Bool
  /-- `prev_level` (R24). -/
  prevLevel : Bool
  /-- `det_state` (R25). -/
  det : DetState
  /-- `t_rise` (R26). -/
  tRise : Stamp
  /-- `t_fall` (R27). -/
  tFall : Stamp
  /-- `ovf_pending` (R28). -/
  ovfPending : Bool
  /-- `drop_cnt` (R29). -/
  dropCnt : Half
  deriving DecidableEq, Repr

/-- The state of one channel whose entries have `w` bits (R30); the counts are unbounded. -/
structure Chan (w : Nat) where
  /-- `ch.buf`, oldest first. -/
  buf : List (BitVec w)
  /-- `ch.wcnt`. -/
  wcnt : Nat
  /-- `ch.rcnt`. -/
  rcnt : Nat
  /-- `ch.wsync`, in the reader's domain. -/
  wsync : List Nat
  /-- `ch.rsync`, in the writer's domain. -/
  rsync : List Nat
  deriving DecidableEq, Repr

/-- The programmable register fields (R31). -/
structure Regs where
  /-- `CTRL.RX_EN`. -/
  rxEn : Bool
  /-- `IRQ_STATUS.TX_DONE`. -/
  txDone : Bool
  /-- `IRQ_STATUS.COND_OVF`. -/
  condOvf : Bool
  /-- `IRQ_STATUS.FRAME_PUSHED`. -/
  framePushed : Bool
  /-- `IRQ_ENABLE[2:0]`. -/
  irqEnable : BitVec 3
  /-- `T_US`. -/
  tUs : Half
  /-- `PAUSE_GUARD_US`. -/
  pauseGuardUs : Half
  /-- `TOL_MINUS_US`. -/
  tolMinusUs : Half
  /-- `TOL_PLUS_US`. -/
  tolPlusUs : Half
  /-- `PAUSE_TIMEOUT_EN`. -/
  pauseTimeoutEn : Bool
  /-- `TX_DATA`. -/
  txData : Word
  /-- `DISCARD_CNT`. -/
  discardCnt : Half
  /-- `VIOLATION_CNT`. -/
  violationCnt : Half
  deriving DecidableEq, Repr

/-- The `clk_sys` views of receive-side values (R32, R33). -/
structure Views where
  /-- `rx_active_s`, SYNC_STAGES + 1 stages. -/
  rxActive : List Bool
  /-- `drop_sync`. -/
  dropSync : List Half
  deriving DecidableEq, Repr

/-- The decoder's state (R34 to R36). -/
structure Dec where
  /-- `dec_state`. -/
  state : DecState
  /-- `dec_acc`. -/
  acc : Word
  /-- `dec_cnt`. -/
  cnt : BitVec 6
  deriving DecidableEq, Repr

/-- The transmitter's state (R37 to R41). -/
structure Tx where
  /-- `tx_busy`. -/
  busy : Bool
  /-- `tx_out`. -/
  out : Bool
  /-- `tx_seg`. -/
  seg : BitVec 8
  /-- `tx_t0`. -/
  t0 : Stamp
  /-- `tx_word`. -/
  word : Word
  deriving DecidableEq, Repr

/-- The ports of R21 that are not functions of the other state: what the environment drives on each input in the current
step, `bus_rdata`, and three wires that say what the latest step of a domain handed over. -/
structure Ports where
  /-- `rst`. -/
  rst : Bool
  /-- `rx_in`. -/
  rxIn : Bool
  /-- `rx_now_us`. -/
  rxNow : Stamp
  /-- `sys_now_us`. -/
  sysNow : Stamp
  /-- `bus_valid`. -/
  busValid : Bool
  /-- `bus_we`. -/
  busWe : Bool
  /-- `bus_off`. -/
  busOff : BitVec 6
  /-- `bus_wdata`. -/
  busWdata : Word
  /-- `frame_ready`. -/
  frameReady : Bool
  /-- `bus_rdata`, as the latest `clk_sys` step showed it (R133). -/
  busRdata : Word
  /-- The condition the classifier produced in the latest `clk_rx` step (R94). -/
  emitted : Option Code
  /-- The condition word popped in the latest `clk_sys` step (R100, R121). -/
  condPopped : Option Code
  /-- The frame word the consumer took in the latest `clk_cons` step (R108). -/
  framePopped : Option Word
  deriving DecidableEq, Repr

/-- The fairness record of R57, the model's own: for each synchroniser, whether its source has stayed unchanged since the
start of its domain's latest step. -/
structure Fair where
  rxIn : Bool
  rxEn : Bool
  ccRead : Bool
  ccWrite : Bool
  fcWrite : Bool
  fcRead : Bool
  active : Bool
  drop : Bool
  deriving DecidableEq, Repr

/-- The whole machine. -/
structure State where
  /-- The elaboration-time parameters (R10); no step changes them. -/
  params : Params
  rx : Rx
  /-- The condition channel. -/
  cc : Chan 4
  /-- The frame channel. -/
  fc : Chan 32
  regs : Regs
  views : Views
  dec : Dec
  tx : Tx
  io : Ports
  fair : Fair
  /-- The environment's moves that have been placed, next one first: the model's own. -/
  moves : List Move
  /-- How many free moves of the environment have been taken: the model's own. -/
  freeIdx : Nat
  deriving DecidableEq, Repr

/-! ## Named updates -/

def State.setRx (s : State) (r : Rx) : State := { s with rx := r }
def State.setCc (s : State) (c : Chan 4) : State := { s with cc := c }
def State.setFc (s : State) (c : Chan 32) : State := { s with fc := c }
def State.setRegs (s : State) (r : Regs) : State := { s with regs := r }
def State.setViews (s : State) (v : Views) : State := { s with views := v }
def State.setDec (s : State) (d : Dec) : State := { s with dec := d }
def State.setTx (s : State) (t : Tx) : State := { s with tx := t }
def State.setIo (s : State) (p : Ports) : State := { s with io := p }
def State.setFair (s : State) (f : Fair) : State := { s with fair := f }
def State.setMoves (s : State) (m : List Move) : State := { s with moves := m }
def State.setFreeIdx (s : State) (n : Nat) : State := { s with freeIdx := n }

/-! ## Reset values (R166, R167) -/

/-- The receive side after reset (R22 to R29). -/
def Rx.reset (p : Params) : Rx :=
  { sync := List.replicate p.syncStages false
    enSync := List.replicate p.syncStages false
    prevLevel := false
    det := .waitBitStart
    tRise := 0
    tFall := 0
    ovfPending := false
    dropCnt := 0 }

/-- A channel after reset (R30). -/
def Chan.reset (w : Nat) (p : Params) : Chan w :=
  { buf := []
    wcnt := 0
    rcnt := 0
    wsync := List.replicate p.syncStages 0
    rsync := List.replicate p.syncStages 0 }

/-- The register fields after reset (R31). -/
def Regs.reset : Regs :=
  { rxEn := false
    txDone := false
    condOvf := false
    framePushed := false
    irqEnable := 0
    tUs := 250
    pauseGuardUs := 150
    tolMinusUs := 150
    tolPlusUs := 250
    pauseTimeoutEn := true
    txData := 0
    discardCnt := 0
    violationCnt := 0 }

/-- The views after reset (R32, R33). -/
def Views.reset (p : Params) : Views :=
  { rxActive := List.replicate (p.syncStages + 1) false
    dropSync := List.replicate p.syncStages 0 }

/-- The decoder after reset (R34 to R36). -/
def Dec.reset : Dec := { state := .waitSync, acc := 0, cnt := 0 }

/-- The transmitter after reset (R37 to R41). -/
def Tx.reset : Tx := { busy := false, out := false, seg := 0, t0 := 0, word := 0 }

/-- The input ports before the environment has driven them (assumption 3), and `bus_rdata` = 0 (R167). -/
def Ports.reset : Ports :=
  { rst := false
    rxIn := false
    rxNow := 0
    sysNow := 0
    busValid := false
    busWe := false
    busOff := 0
    busWdata := 0
    frameReady := false
    busRdata := 0
    emitted := none
    condPopped := none
    framePopped := none }

/-- The fairness record after reset: nothing has been seen to hold still (assumption 5). -/
def Fair.reset : Fair :=
  { rxIn := false
    rxEn := false
    ccRead := false
    ccWrite := false
    fcWrite := false
    fcRead := false
    active := false
    drop := false }

/-- The block right after reset for given elaboration-time parameters. -/
def State.resetWith (p : Params) : State :=
  { params := p
    rx := Rx.reset p
    cc := Chan.reset 4 p
    fc := Chan.reset 32 p
    regs := Regs.reset
    views := Views.reset p
    dec := Dec.reset
    tx := Tx.reset
    io := Ports.reset
    fair := Fair.reset
    moves := []
    freeIdx := 0 }

/-- The block right after reset with the default parameters of R10. -/
def State.reset : State := State.resetWith defaultParams

end Sys2Proof.Machine
end

