-- ==== Sys2Proof/Machine/Operands.lean ====
section
/-! DEFINITION. Operands and plain computations on them: the arithmetic of R14, the state codes of R25 and R34, the frame
word's fields and the permutation P of R69 to R72, the condition codes of R67, and the views of R55. -/

namespace Sys2Proof.Machine

/-! ## Arithmetic (R14); `zext_N` is `BitVec.setWidth`, and the saturating count of R111 stands there -/

/-- `sub64(a, b)`: the elapsed time from `b` to `a`, modulo 2^64. -/
def sub64 (a b : Stamp) : Stamp := a - b

/-- `add64(a, b)`: addition modulo 2^64. -/
def add64 (a b : Stamp) : Stamp := a + b

/-- `satinc_16`. -/
def satinc16 (x : Half) : Half := if x = 0xFFFF#16 then x else x + 1#16

/-! ## State codes -/

/-- The 2-bit code of `det_state` (R25). -/
def DetState.code (d : DetState) : BitVec 2 :=
  match d with
  | .waitBitStart => 0b00#2
  | .waitHighToLow => 0b01#2
  | .waitLowDecision => 0b10#2

/-- An implementation's reading of the 2-bit register: 2'b11 decodes as `WaitBitStart` (R169). -/
def DetState.ofCode (c : BitVec 2) : DetState :=
  if c = 0b01#2 then .waitHighToLow else if c = 0b10#2 then .waitLowDecision else .waitBitStart

/-- The 2-bit code of `dec_state` (R34). -/
def DecState.code (d : DecState) : BitVec 2 :=
  match d with
  | .waitSync => 0b00#2
  | .waitBitStart => 0b01#2
  | .waitSpace => 0b10#2
  | .waitMark => 0b11#2

/-! ## Condition codes (R67) -/

def codeMark : Code := 0b0000#4
def codeSpace : Code := 0b0001#4
def codeSync : Code := 0b0010#4
def codePause : Code := 0b0011#4
def codeBadEdgeAfterStart : Code := 0b0100#4
def codeBadEdgeAfterHigh : Code := 0b0101#4
def codeBadEdgeAfterLow : Code := 0b0110#4
def codeBadHighDuration : Code := 0b0111#4
def codeBadLowDuration : Code := 0b1000#4
def codeOverflow : Code := 0b1001#4

/-! ## Frame word and wire word -/

/-- `stationId` of a frame word (R69, R70). -/
def stationId (f : Word) : BitVec 26 := f.extractLsb' 0 26

/-- `group` of a frame word. -/
def group (f : Word) : Bool := f.getLsbD 26

/-- `state` of a frame word. -/
def frameState (f : Word) : Bool := f.getLsbD 27

/-- `channel` of a frame word. -/
def channel (f : Word) : BitVec 2 := f.extractLsb' 28 2

/-- `unit` of a frame word. -/
def unit (f : Word) : BitVec 2 := f.extractLsb' 30 2

/-- The frame word of given fields: `{unit, channel, state, group, stationId}` (R69). -/
def frameWord (u c : BitVec 2) (st gr : Bool) (id : BitVec 26) : Word :=
  u ++ c ++ BitVec.ofBool st ++ BitVec.ofBool gr ++ id

/-- The permutation P between frame word and wire word: bits 28 and 29 change places, and bits 30 and 31 (R72). -/
def permP (x : Word) : Word :=
  x.extractLsb' 30 1 ++ x.extractLsb' 31 1 ++ x.extractLsb' 28 1 ++ x.extractLsb' 29 1 ++ x.extractLsb' 0 28

/-! ## Views (R22, R23, R30, R32, R33, R55): the last stage of a synchroniser -/

/-- `s_lvl` (R22). -/
def State.sLvl (s : State) : Bool := s.rx.sync.getLastD false

/-- The receive side's enable `rx_en` (R23). -/
def State.rxEnView (s : State) : Bool := s.rx.enSync.getLastD false

/-- `ch.wview` (R30). -/
def Chan.wview {w : Nat} (c : Chan w) : Nat := c.wsync.getLastD 0

/-- `ch.rview` (R30). -/
def Chan.rview {w : Nat} (c : Chan w) : Nat := c.rsync.getLastD 0

/-- `rx_active_s[SYNC_STAGES]` (R32). -/
def State.activeView (s : State) : Bool := s.views.rxActive.getLastD false

/-- `drop_view` (R33). -/
def State.dropView (s : State) : Half := s.views.dropSync.getLastD 0

end Sys2Proof.Machine
end

