-- ==== Sys2Proof/Machine/Flags.lean ====
section
/-! DEFINITION. The status bits and outputs that are functions of the state: channel fullness and emptiness (R98),
`RX_ACTIVE` (R59), the configuration guard (R135), `irq` (R154), the consumer port's outputs (R108), and the value each
register reads as (R136 to R147). -/

namespace Sys2Proof.Machine

/-- `full_w(ch)`: the writer's judgement (R98). -/
def Chan.fullW {w : Nat} (c : Chan w) (depth : Nat) : Bool := c.wcnt == c.rview + depth

/-- `empty_r(ch)`: the reader's judgement (R98). -/
def Chan.emptyR {w : Nat} (c : Chan w) : Bool := c.wview == c.rcnt

/-- `full_w(cc)`, judged in `clk_rx`. -/
def State.ccFull (s : State) : Bool := s.cc.fullW s.params.condDepth

/-- `full_w(fc)`, judged in `clk_sys`; `STATUS.FRAME_FULL` (R107). -/
def State.fcFull (s : State) : Bool := s.fc.fullW s.params.frameDepth

/-- `STATUS.RX_ACTIVE` (R59, R138). -/
def State.rxActive (s : State) : Bool := s.activeView || (s.cc.wview != s.cc.rcnt)

/-- The configuration write guard (R135). -/
def State.cfgGuard (s : State) : Bool := !s.regs.rxEn && !s.rxActive && !s.tx.busy

/-- The interrupt output, a level (R154). -/
def State.irq (s : State) : Bool :=
  (s.regs.txDone && s.regs.irqEnable.getLsbD 0) || (s.regs.condOvf && s.regs.irqEnable.getLsbD 1)
    || (s.regs.framePushed && s.regs.irqEnable.getLsbD 2)

/-- `frame_valid` (R108). -/
def State.frameValid (s : State) : Bool := !s.fc.emptyR

/-- `frame_data` (R108): the head of the frame channel while valid, else zero. -/
def State.frameData (s : State) : Word := if s.frameValid then s.fc.buf.headD 0 else 0

/-! ## What each register reads as -/

/-- `ID` (R136). -/
def idWord : Word := 0x4E580001#32

/-- `CTRL`: `RX_EN` in bit 0; `TX_START` reads 0 (R137). -/
def State.ctrlWord (s : State) : Word := 0#30 ++ 0#1 ++ BitVec.ofBool s.regs.rxEn

/-- `STATUS` (R138). -/
def State.statusWord (s : State) : Word :=
  0#19 ++ s.dec.cnt ++ s.dec.state.code ++ BitVec.ofBool s.cc.emptyR ++ BitVec.ofBool s.fcFull
    ++ BitVec.ofBool s.tx.out ++ BitVec.ofBool s.tx.busy ++ BitVec.ofBool s.rxActive

/-- `IRQ_STATUS` (R139). -/
def State.irqStatusWord (s : State) : Word :=
  0#29 ++ BitVec.ofBool s.regs.framePushed ++ BitVec.ofBool s.regs.condOvf ++ BitVec.ofBool s.regs.txDone

/-- `IRQ_ENABLE` (R140). -/
def State.irqEnableWord (s : State) : Word := 0#29 ++ s.regs.irqEnable

/-- `TIMING0` (R141). -/
def State.timing0Word (s : State) : Word := s.regs.pauseGuardUs ++ s.regs.tUs

/-- `TIMING1` (R142). -/
def State.timing1Word (s : State) : Word := s.regs.tolPlusUs ++ s.regs.tolMinusUs

/-- `RXCFG` (R143). -/
def State.rxcfgWord (s : State) : Word := 0#31 ++ BitVec.ofBool s.regs.pauseTimeoutEn

/-- `COND_DROP_CNT` (R145). -/
def State.condDropCntWord (s : State) : Word := 0#16 ++ s.dropView

/-- `DEC_STATS` (R146). -/
def State.decStatsWord (s : State) : Word := s.regs.violationCnt ++ s.regs.discardCnt

/-- The value of the register in slot `bus_off[5:2]` (R133, R147). -/
def State.regval (s : State) (slot : BitVec 4) : Word :=
  match slot.toNat with
  | 0 => idWord
  | 1 => s.ctrlWord
  | 2 => s.statusWord
  | 3 => s.irqStatusWord
  | 4 => s.irqEnableWord
  | 5 => s.timing0Word
  | 6 => s.timing1Word
  | 7 => s.rxcfgWord
  | 8 => s.regs.txData
  | 9 => s.condDropCntWord
  | 10 => s.decStatsWord
  | _ => 0

end Sys2Proof.Machine
end

