-- ==== Sys2Proof/Machine/Ops.lean ====
section
/-! DEFINITION. The named operations that the meanings share: channel primitives (R99, R100), synchroniser sampling (R56,
R57), error reports and interrupt bits (R113, R139, R146, R152), and the bus read port (R133). The block has no trap and
no return from one (R151): an error is a condition word, a counter increment or a sticky bit. -/

namespace Sys2Proof.Machine

/-- An outcome of this machine. -/
abbrev Result := Host.Outcome State Fault Refusal

/-- Go on with the next state, if there is one. -/
def andThen (o : Result) (k : State → Result) : Result :=
  match o with
  | .next s => k s
  | .fault f => .fault f
  | .refused r => .refused r

/-! ## Channel primitives -/

/-- `Push(ch, v)` (R99). -/
def Chan.push {w : Nat} (c : Chan w) (v : BitVec w) : Chan w :=
  { c with buf := c.buf ++ [v], wcnt := c.wcnt + 1 }

/-- `Pop(ch)` (R100): the head and the channel without it; none if the storage is empty. -/
def Chan.pop {w : Nat} (c : Chan w) : Option (BitVec w × Chan w) :=
  match c.buf with
  | [] => none
  | v :: rest => some (v, { c with buf := rest, rcnt := c.rcnt + 1 })

/-- Push a condition word. -/
def State.pushCond (s : State) (c : Code) : State := s.setCc (s.cc.push c)

/-- Push a frame word. -/
def State.pushFrame (s : State) (f : Word) : State := s.setFc (s.fc.push f)

/-- Pop of the condition channel, in `clk_sys`; the popped word shows on `condPopped`. -/
def State.popCond (s : State) : Option (Code × State) :=
  match s.cc.pop with
  | none => none
  | some (c, ch) => some (c, (s.setCc ch).setIo { s.io with condPopped := some c })

/-- Pop of the frame channel, in `clk_cons`; the popped word shows on `framePopped`. -/
def State.popFrame (s : State) : Option (Word × State) :=
  match s.fc.pop with
  | none => none
  | some (f, ch) => some (f, (s.setFc ch).setIo { s.io with framePopped := some f })

/-! ## Synchronisers (R56, R57) -/

/-- Stage 0 takes `x` and every other stage what the stage before it held. -/
def shiftIn {α : Type} (x : α) (stages : List α) : List α := (x :: stages).dropLast

/-- A 1-bit sample: the source's value, or with the draw `keep` the value stage 0 holds; the source's value when fairness
forces it. -/
def sampleBit (settled keep src old : Bool) : Bool := if settled || !keep then src else old

/-- A count's sample: the draw brought into the range from the old value to the source's; the source's value when
fairness forces it. -/
def sampleCount (settled : Bool) (draw src old : Nat) : Nat := if settled then src else max old (min draw src)

/-- One step of a 1-bit synchroniser. -/
def stepBitSync (settled keep src : Bool) (stages : List Bool) : List Bool :=
  shiftIn (sampleBit settled keep src (stages.headD false)) stages

/-- One step of a count's synchroniser. -/
def stepCountSync (settled : Bool) (draw src : Nat) (stages : List Nat) : List Nat :=
  shiftIn (sampleCount settled draw src (stages.headD 0)) stages

/-- One step of `drop_sync`, whose stages are 16 bits wide. -/
def stepDropSync (settled : Bool) (draw : Nat) (src : Half) (stages : List Half) : List Half :=
  shiftIn (BitVec.ofNat 16 (sampleCount settled draw src.toNat (stages.headD 0).toNat)) stages

/-! ## The condition channel's write side (R104) -/

/-- The classifier's condition output for this step (R15, R94). -/
def State.emit (s : State) (c : Option Code) : State := s.setIo { s.io with emitted := c }

/-- A condition is dropped: it is counted and a marker is owed (R104). -/
def State.dropCond (s : State) : State :=
  s.setRx { s.rx with dropCnt := satinc16 s.rx.dropCnt, ovfPending := true }

/-- A waiting OVERFLOW marker is pushed (R104). -/
def State.pushMarker (s : State) : State :=
  (s.pushCond codeOverflow).setRx { s.rx with ovfPending := false }

/-- The write side's step for the condition `c` that the classifier produces in this step, or none. -/
def State.writeSide (s : State) (c : Option Code) : State :=
  let s := s.emit c
  if !s.rxEnView then s
  else if s.rx.ovfPending && !s.ccFull then
    match c with
    | some _ => s.pushMarker.dropCond
    | none => s.pushMarker
  else
    match c with
    | some c => if !s.ccFull then s.pushCond c else s.dropCond
    | none => s

/-! ## The decoder's partial frame and reports -/

/-- Clearing the partial frame (R110) on entry to a state. -/
def Dec.clearTo (d : DecState) : Dec := { state := d, acc := 0, cnt := 0 }

/-- Appending a logical bit (R111). -/
def Dec.append (d : Dec) (b : Bool) : Dec :=
  let bit : Word := 1#32 <<< d.cnt.toNat
  { d with
    acc := if d.cnt.toNat < 32 then (if b then d.acc ||| bit else d.acc &&& ~~~bit) else d.acc
    cnt := if d.cnt = 63#6 then 63#6 else d.cnt + 1#6 }

/-- What the decoder's event-level function puts out (R114). -/
inductive DecOut where
  | nothing
  | frame (f : Word)
  | discard
  | violation
  deriving DecidableEq, Repr

/-- `violation()`: the partial frame is dropped and the decoder waits for a Sync (R113). -/
def decViolation : Dec × DecOut := (Dec.clearTo .waitSync, .violation)

/-- `VIOLATION_CNT` counts one more (R113). -/
def State.countViolation (s : State) : State :=
  s.setRegs { s.regs with violationCnt := satinc16 s.regs.violationCnt }

/-- `DISCARD_CNT` counts one more (R118). -/
def State.countDiscard (s : State) : State :=
  s.setRegs { s.regs with discardCnt := satinc16 s.regs.discardCnt }

/-- `IRQ_STATUS.COND_OVF` is set (R121). -/
def State.raiseCondOvf (s : State) : State := s.setRegs { s.regs with condOvf := true }

/-- `IRQ_STATUS.FRAME_PUSHED` is set (R118). -/
def State.raiseFramePushed (s : State) : State := s.setRegs { s.regs with framePushed := true }

/-- `IRQ_STATUS.TX_DONE` is set (R128). -/
def State.raiseTxDone (s : State) : State := s.setRegs { s.regs with txDone := true }

/-- The decoder takes its next state and reports its output (R113, R118). -/
def State.applyDec (s : State) (r : Dec × DecOut) : State :=
  let s := s.setDec r.1
  match r.2 with
  | .nothing => s
  | .frame f => (s.pushFrame f).raiseFramePushed
  | .discard => s.countDiscard
  | .violation => s.countViolation

/-- The frame channel has no room for the frame that a PAUSE would emit now (R120). -/
def State.wouldEmit (s : State) (c : Code) : Bool :=
  s.dec.state == .waitBitStart && s.dec.cnt == 32#6 && c == codePause

/-! ## The bus -/

/-- `bus_rdata` carries `v` in this step (R133). -/
def State.driveRdata (s : State) (v : Word) : State := s.setIo { s.io with busRdata := v }

/-- A step whose access is a write shows `bus_rdata` = 0 (R133). -/
def State.busWrite (s : State) : State := s.driveRdata 0

end Sys2Proof.Machine
end

