-- ==== Sys2Proof/Machine/Channels.lean ====
section
/-! DEFINITION. The channel primitives CH_PUSH (R99) and CH_POP (R100) and the consumer's FRAME_POP (R108). -/

namespace Sys2Proof.Machine

/-- Pop of the condition channel on the reader's judgement: a reader that sees it empty does nothing (R100). -/
def State.readCond (s : State) : Result :=
  if s.cc.emptyR then .next s
  else
    match s.popCond with
    | some (_, s') => .next s'
    | none => .fault (.popWithoutEntry .cc)

/-- Pop of the frame channel on the reader's judgement (R100, R108). -/
def State.readFrame (s : State) : Result :=
  if s.fc.emptyR then .next s
  else
    match s.popFrame with
    | some (_, s') => .next s'
    | none => .fault (.popWithoutEntry .fc)

/-- CH_PUSH (R99). Every caller checks first that the writer sees room; asked for by hand without room it faults. -/
def execChPush (e : ChanEntry) (s : State) : Result :=
  match e with
  | .cc c => if s.ccFull then .fault (.pushWhileFull .cc) else .next (s.pushCond c)
  | .fc f => if s.fcFull then .fault (.pushWhileFull .fc) else .next (s.pushFrame f)

/-- CH_POP (R100). -/
def execChPop (ch : ChanId) (s : State) : Result :=
  match ch with
  | .cc => s.readCond
  | .fc => s.readFrame

/-- FRAME_POP (R108): the consumer takes the head frame word if `frame_valid` is 1; else nothing happens. -/
def execFramePop (s : State) : Result := s.readFrame

end Sys2Proof.Machine
end

