-- ==== Sys2Proof/Machine/Classifier.lean ====
section
/-! DEFINITION. The bit-timing classifier of 40_detector.md at the event level: EDGE_RISE, EDGE_FALL and PAUSE_TIMEOUT.
Each hands its condition to the condition channel's write side in the same step (R94). -/

namespace Sys2Proof.Machine

/-! ## Timing primitives (R86 to R89), in unbounded integers (R14) -/

/-- The tolerance window around a target duration (R87); both bounds are inclusive. -/
def inwin (g : Regs) (d : Stamp) (tgt : Int) : Bool :=
  tgt - g.tolMinusUs.toNat ≤ (d.toNat : Int) && (d.toNat : Int) ≤ tgt + g.tolPlusUs.toNat

/-- `40*T_US - PAUSE_GUARD_US` (R88). -/
def pauseBound (g : Regs) : Int := 40 * (g.tUs.toNat : Int) - g.pauseGuardUs.toNat

/-- Classification of a low phase; the first window that matches wins (R88). -/
def classify (g : Regs) (d : Stamp) : Code :=
  if inwin g d g.tUs.toNat then codeMark
  else if inwin g d (5 * g.tUs.toNat) then codeSpace
  else if inwin g d (10 * g.tUs.toNat) then codeSync
  else if pauseBound g ≤ (d.toNat : Int) then codePause
  else codeBadLowDuration

/-- The Pause timeout threshold E (R89). -/
def timeoutE (g : Regs) : Int := max (pauseBound g) (10 * (g.tUs.toNat : Int) + g.tolPlusUs.toNat + 1)

/-! ## The event-level transfer function (R90) -/

/-- The rising edge, once it is known to change the level (R91). -/
def riseArm (g : Regs) (t : Stamp) (r : Rx) : Option Code × Rx :=
  match r.det with
  | .waitBitStart => (none, { r with tRise := t, det := .waitHighToLow })
  | .waitHighToLow => (some codeBadEdgeAfterHigh, r)
  | .waitLowDecision => (some (classify g (sub64 t r.tFall)), { r with tRise := t, det := .waitHighToLow })

/-- The falling edge, once it is known to change the level (R92). -/
def fallArm (g : Regs) (t : Stamp) (r : Rx) : Option Code × Rx :=
  match r.det with
  | .waitBitStart => (some codeBadEdgeAfterStart, r)
  | .waitHighToLow =>
    if inwin g (sub64 t r.tRise) g.tUs.toNat then (none, { r with tFall := t, det := .waitLowDecision })
    else (some codeBadHighDuration, { r with det := .waitBitStart })
  | .waitLowDecision => (some codeBadEdgeAfterLow, r)

/-- `det_event`: at most one condition and the next state; a duplicate level changes nothing (R90). -/
def detEvent (g : Regs) (lvl : Bool) (t : Stamp) (r : Rx) : Option Code × Rx :=
  if lvl == r.prevLevel then (none, r)
  else if lvl then riseArm g t { r with prevLevel := lvl }
  else fallArm g t { r with prevLevel := lvl }

/-- The Pause timeout is due at time `now` (R85, R93). -/
def timeoutDue (g : Regs) (now : Stamp) (r : Rx) : Bool :=
  r.det == .waitLowDecision && g.pauseTimeoutEn && timeoutE g ≤ ((sub64 now r.tFall).toNat : Int)

/-- `det_timeout` (R93): the state is left for `WaitBitStart`, with a PAUSE. -/
def detTimeout (g : Regs) (now : Stamp) (r : Rx) : Option Code × Rx :=
  if timeoutDue g now r then (some codePause, { r with det := .waitBitStart }) else (none, r)

/-- The classifier's next state is taken, and its condition goes to the write side in the same step (R94, R104). -/
def State.applyDet (s : State) (o : Option Code × Rx) : State := (s.setRx o.2).writeSide o.1

/-! ## The operations -/

/-- EDGE_RISE (R91, R90). -/
def execEdgeRise (t : Stamp) (s : State) : Result := .next (s.applyDet (detEvent s.regs true t s.rx))

/-- EDGE_FALL (R92, R90). -/
def execEdgeFall (t : Stamp) (s : State) : Result := .next (s.applyDet (detEvent s.regs false t s.rx))

/-- PAUSE_TIMEOUT (R93), judged at the timestamp on `rx_now_us`. Not due, the step produces no condition (R85). -/
def execPauseTimeout (s : State) : Result := .next (s.applyDet (detTimeout s.regs s.io.rxNow s.rx))

end Sys2Proof.Machine
end

