-- ==== Sys2Proof/Machine/Decoder.lean ====
section
/-! DEFINITION. The telegram decoder of 42_decoder.md at the event level: the consumption of one condition word (R114),
one operation for each condition. -/

namespace Sys2Proof.Machine

/-! ## The event-level functions on the decoder's state -/

/-- Consume MARK (R116). -/
def decMark (d : Dec) : Dec × DecOut :=
  match d.state with
  | .waitSync => (d, .nothing)
  | .waitBitStart => ({ d with state := .waitSpace }, .nothing)
  | .waitMark => ({ d.append false with state := .waitBitStart }, .nothing)
  | .waitSpace => decViolation

/-- Consume SPACE (R117). -/
def decSpace (d : Dec) : Dec × DecOut :=
  match d.state with
  | .waitSync => (d, .nothing)
  | .waitBitStart => ({ d with state := .waitMark }, .nothing)
  | .waitSpace => ({ d.append true with state := .waitBitStart }, .nothing)
  | .waitMark => decViolation

/-- Consume SYNC (R115): outside `WaitSync` it is counted as a violation and restarts the frame at once. -/
def decSync (d : Dec) : Dec × DecOut :=
  (Dec.clearTo .waitBitStart, if d.state = .waitSync then .nothing else .violation)

/-- Consume PAUSE (R118). -/
def decPause (d : Dec) : Dec × DecOut :=
  match d.state with
  | .waitSync => (d, .nothing)
  | .waitBitStart => (Dec.clearTo .waitSync, if d.cnt = 32#6 then .frame (permP d.acc) else .discard)
  | .waitSpace => decViolation
  | .waitMark => decViolation

/-- Consume any other code (R119, R68). -/
def decOther (d : Dec) : Dec × DecOut :=
  match d.state with
  | .waitSync => (d, .nothing)
  | .waitBitStart => decViolation
  | .waitSpace => decViolation
  | .waitMark => decViolation

/-- The event-level transfer function on a condition code (R114). -/
def decEvent (c : Code) (d : Dec) : Dec × DecOut :=
  if c = codeMark then decMark d
  else if c = codeSpace then decSpace d
  else if c = codeSync then decSync d
  else if c = codePause then decPause d
  else decOther d

/-- Consuming a condition of R119. -/
def State.consumeOther (s : State) : State := s.applyDec (decOther s.dec)

/-! ## The operations -/

/-- COND_MARK (R116). -/
def execCondMark (s : State) : Result := .next (s.applyDec (decMark s.dec))

/-- COND_SPACE (R117). -/
def execCondSpace (s : State) : Result := .next (s.applyDec (decSpace s.dec))

/-- COND_SYNC (R115). -/
def execCondSync (s : State) : Result := .next (s.applyDec (decSync s.dec))

/-- COND_PAUSE (R118). A PAUSE that would emit a frame into a channel the decoder sees full is not consumed: the decoder
changes nothing and tries again in the next step (R120). -/
def execCondPause (s : State) : Result :=
  if s.wouldEmit codePause && s.fcFull then .next s else .next (s.applyDec (decPause s.dec))

/-- COND_BAD_EDGE_AFTER_START (R119). -/
def execCondBadEdgeAfterStart (s : State) : Result := .next s.consumeOther

/-- COND_BAD_EDGE_AFTER_HIGH (R119). -/
def execCondBadEdgeAfterHigh (s : State) : Result := .next s.consumeOther

/-- COND_BAD_EDGE_AFTER_LOW (R119). -/
def execCondBadEdgeAfterLow (s : State) : Result := .next s.consumeOther

/-- COND_BAD_HIGH_DURATION (R119). -/
def execCondBadHighDuration (s : State) : Result := .next s.consumeOther

/-- COND_BAD_LOW_DURATION (R119). -/
def execCondBadLowDuration (s : State) : Result := .next s.consumeOther

/-- COND_OVERFLOW (R119); in every state it also sets `IRQ_STATUS.COND_OVF` (R121). -/
def execCondOverflow (s : State) : Result := .next s.raiseCondOvf.consumeOther

/-- COND_RESERVED_101x: "any other condition" (R68). -/
def execCondReserved101x (s : State) : Result := .next s.consumeOther

/-- COND_RESERVED_11xx: "any other condition" (R68). -/
def execCondReserved11xx (s : State) : Result := .next s.consumeOther

end Sys2Proof.Machine
end

