-- ==== Sys2Proof/Machine/Transmitter.lean ====
section
/-! DEFINITION. The waveform transmitter of 43_transmitter.md: the segment table (R126), TX_START (R127) and TX_SEGMENT
(R128). -/

namespace Sys2Proof.Machine

/-! ## The segment table (R126) -/

/-- `p(i, j)` for the wire word `w`: the value of physical bit `j` of logical bit `i`. -/
def physBit (w : Word) (i : Nat) (j : Bool) : Bool := w.getLsbD i ^^ j

/-- `lvl(k)`: every even segment is a high phase. -/
def segLevel (k : Nat) : Bool := k % 2 == 0

/-- `mul(k)`, in units of T. An index above 131 is treated as 131 (R169). -/
def segMul (w : Word) (k : Nat) : Nat :=
  if k % 2 = 0 ∧ k ≤ 130 then 1
  else if k = 1 then 10
  else if k ≤ 129 then (if physBit w ((k - 2) / 4) ((k - 2) / 2 % 2 == 1) then 1 else 5)
  else 40

/-- `off(k)` in units of T: the sum of the segments before `k`. -/
def segOffset (w : Word) (k : Nat) : Nat := ((List.range k).map (segMul w)).sum

/-- `mul(tx_seg) * T_US`, the duration of the current segment (R128). -/
def State.segDuration (s : State) : Nat := segMul s.tx.word s.tx.seg.toNat * s.regs.tUs.toNat

/-- The boundary of the current segment is due (R128). -/
def State.segDue (s : State) : Bool := s.segDuration ≤ (sub64 s.io.sysNow s.tx.t0).toNat

/-! ## Starting and stepping a telegram -/

/-- TX_START's effect on the transmitter (R127): nothing while a telegram is being sent. -/
def State.startTelegram (s : State) : State :=
  if s.tx.busy then s
  else s.setTx { busy := true, out := true, seg := 0, t0 := s.io.sysNow, word := permP s.regs.txData }

/-- The write of CTRL (R137): every write sets RX_EN from bit 0; bit 1 starts a telegram. -/
def State.writeCtrl (s : State) (v : Word) : State :=
  let s1 := (s.busWrite).setRegs { s.regs with rxEn := v.getLsbD 0 }
  if v.getLsbD 1 then s1.startTelegram else s1

/-- TX_START (R127): the write of CTRL with `wdata[1]` = 1. -/
def execTxStart (v : Word) (s : State) : Result := .next (s.writeCtrl v)

/-- TX_SEGMENT (R128): one segment boundary, if it is due and a telegram is being sent. -/
def execTxSegment (s : State) : Result :=
  if s.tx.busy && s.segDue then
    let t0 := add64 s.tx.t0 (BitVec.ofNat 64 s.segDuration)
    if 131 ≤ s.tx.seg.toNat then
      .next (s.setTx { s.tx with busy := false, out := false, seg := 0, t0 := t0 }).raiseTxDone
    else
      .next (s.setTx { s.tx with seg := s.tx.seg + 1, t0 := t0, out := segLevel (s.tx.seg.toNat + 1) })
  else .next s

end Sys2Proof.Machine
end

