-- ==== Sys2Proof/Machine/HostRegs.lean ====
section
/-! DEFINITION. The host register operations of 44_host_registers.md: a read and a write of each register and of the
offsets that hold none. A read changes nothing but `bus_rdata` (R51, R133). -/

namespace Sys2Proof.Machine

/-! ## Reads -/

/-- RD_ID (R136). -/
def execRdId (s : State) : Result := .next (s.driveRdata idWord)

/-- RD_CTRL (R137). -/
def execRdCtrl (s : State) : Result := .next (s.driveRdata s.ctrlWord)

/-- RD_STATUS (R138). -/
def execRdStatus (s : State) : Result := .next (s.driveRdata s.statusWord)

/-- RD_IRQ_STATUS (R139). -/
def execRdIrqStatus (s : State) : Result := .next (s.driveRdata s.irqStatusWord)

/-- RD_IRQ_ENABLE (R140). -/
def execRdIrqEnable (s : State) : Result := .next (s.driveRdata s.irqEnableWord)

/-- RD_TIMING0 (R141). -/
def execRdTiming0 (s : State) : Result := .next (s.driveRdata s.timing0Word)

/-- RD_TIMING1 (R142). -/
def execRdTiming1 (s : State) : Result := .next (s.driveRdata s.timing1Word)

/-- RD_RXCFG (R143). -/
def execRdRxcfg (s : State) : Result := .next (s.driveRdata s.rxcfgWord)

/-- RD_TX_DATA (R144). -/
def execRdTxData (s : State) : Result := .next (s.driveRdata s.regs.txData)

/-- RD_COND_DROP_CNT (R145). -/
def execRdCondDropCnt (s : State) : Result := .next (s.driveRdata s.condDropCntWord)

/-- RD_DEC_STATS (R146). -/
def execRdDecStats (s : State) : Result := .next (s.driveRdata s.decStatsWord)

/-- RD_UNMAPPED_2C (R147). -/
def execRdUnmapped2c (s : State) : Result := .next (s.driveRdata 0)

/-- RD_UNMAPPED_30_3C (R147). -/
def execRdUnmapped30to3c (s : State) : Result := .next (s.driveRdata 0)

/-! ## Writes -/

/-- A write that the configuration guard lets through or ignores (R135). -/
def State.guardedWrite (s : State) (r : Regs) : State := if s.cfgGuard then s.busWrite.setRegs r else s.busWrite

/-- WR_ID: ignored (R136). -/
def execWrId (_v : Word) (s : State) : Result := .next s.busWrite

/-- WR_CTRL (R137). -/
def execWrCtrl (v : Word) (s : State) : Result := .next (s.writeCtrl v)

/-- WR_STATUS: ignored (R138). -/
def execWrStatus (_v : Word) (s : State) : Result := .next s.busWrite

/-- WR_IRQ_STATUS: a bit written as 1 is cleared (R139). The cycle runs the hardware's sets after it, so that a set in
the same step wins. -/
def execWrIrqStatus (v : Word) (s : State) : Result :=
  .next (s.busWrite.setRegs { s.regs with
    txDone := s.regs.txDone && !v.getLsbD 0
    condOvf := s.regs.condOvf && !v.getLsbD 1
    framePushed := s.regs.framePushed && !v.getLsbD 2 })

/-- WR_IRQ_ENABLE (R140). -/
def execWrIrqEnable (v : Word) (s : State) : Result :=
  .next (s.busWrite.setRegs { s.regs with irqEnable := v.extractLsb' 0 3 })

/-- WR_TIMING0, guarded (R141, R135). -/
def execWrTiming0 (v : Word) (s : State) : Result :=
  .next (s.guardedWrite { s.regs with tUs := v.extractLsb' 0 16, pauseGuardUs := v.extractLsb' 16 16 })

/-- WR_TIMING1, guarded (R142, R135). -/
def execWrTiming1 (v : Word) (s : State) : Result :=
  .next (s.guardedWrite { s.regs with tolMinusUs := v.extractLsb' 0 16, tolPlusUs := v.extractLsb' 16 16 })

/-- WR_RXCFG, guarded (R143, R135). -/
def execWrRxcfg (v : Word) (s : State) : Result :=
  .next (s.guardedWrite { s.regs with pauseTimeoutEn := v.getLsbD 0 })

/-- WR_TX_DATA, not guarded (R144). -/
def execWrTxData (v : Word) (s : State) : Result := .next (s.busWrite.setRegs { s.regs with txData := v })

/-- WR_COND_DROP_CNT: ignored (R145). -/
def execWrCondDropCnt (_v : Word) (s : State) : Result := .next s.busWrite

/-- WR_DEC_STATS: any value clears both counters (R146). The cycle runs the decoder after it, so that an event counted in
the same step survives as 1. -/
def execWrDecStats (_v : Word) (s : State) : Result :=
  .next (s.busWrite.setRegs { s.regs with discardCnt := 0, violationCnt := 0 })

/-- WR_UNMAPPED_2C: ignored (R147). -/
def execWrUnmapped2c (_v : Word) (s : State) : Result := .next s.busWrite

/-- WR_UNMAPPED_30_3C: ignored (R147). -/
def execWrUnmapped30to3c (_v : Word) (s : State) : Result := .next s.busWrite

end Sys2Proof.Machine
end

