-- ==== Sys2Proof/Machine/Dispatch.lean ====
section
/-! DEFINITION. The operation map: one arm for each constructor of Instr, one direct call of its meaning. -/

namespace Sys2Proof.Machine

/-- The meaning of one operation. -/
def exec (i : Instr) (s : State) : Host.Outcome State Fault Refusal :=
  match i with
  | .edgeRise t => Sys2Proof.Machine.execEdgeRise t s
  | .edgeFall t => Sys2Proof.Machine.execEdgeFall t s
  | .pauseTimeout => Sys2Proof.Machine.execPauseTimeout s
  | .condMark => Sys2Proof.Machine.execCondMark s
  | .condSpace => Sys2Proof.Machine.execCondSpace s
  | .condSync => Sys2Proof.Machine.execCondSync s
  | .condPause => Sys2Proof.Machine.execCondPause s
  | .condBadEdgeAfterStart => Sys2Proof.Machine.execCondBadEdgeAfterStart s
  | .condBadEdgeAfterHigh => Sys2Proof.Machine.execCondBadEdgeAfterHigh s
  | .condBadEdgeAfterLow => Sys2Proof.Machine.execCondBadEdgeAfterLow s
  | .condBadHighDuration => Sys2Proof.Machine.execCondBadHighDuration s
  | .condBadLowDuration => Sys2Proof.Machine.execCondBadLowDuration s
  | .condOverflow => Sys2Proof.Machine.execCondOverflow s
  | .condReserved101x _ => Sys2Proof.Machine.execCondReserved101x s
  | .condReserved11xx _ => Sys2Proof.Machine.execCondReserved11xx s
  | .rdId _ => Sys2Proof.Machine.execRdId s
  | .wrId _ v => Sys2Proof.Machine.execWrId v s
  | .rdCtrl _ => Sys2Proof.Machine.execRdCtrl s
  | .wrCtrl _ v => Sys2Proof.Machine.execWrCtrl v s
  | .rdStatus _ => Sys2Proof.Machine.execRdStatus s
  | .wrStatus _ v => Sys2Proof.Machine.execWrStatus v s
  | .rdIrqStatus _ => Sys2Proof.Machine.execRdIrqStatus s
  | .wrIrqStatus _ v => Sys2Proof.Machine.execWrIrqStatus v s
  | .rdIrqEnable _ => Sys2Proof.Machine.execRdIrqEnable s
  | .wrIrqEnable _ v => Sys2Proof.Machine.execWrIrqEnable v s
  | .rdTiming0 _ => Sys2Proof.Machine.execRdTiming0 s
  | .wrTiming0 _ v => Sys2Proof.Machine.execWrTiming0 v s
  | .rdTiming1 _ => Sys2Proof.Machine.execRdTiming1 s
  | .wrTiming1 _ v => Sys2Proof.Machine.execWrTiming1 v s
  | .rdRxcfg _ => Sys2Proof.Machine.execRdRxcfg s
  | .wrRxcfg _ v => Sys2Proof.Machine.execWrRxcfg v s
  | .rdTxData _ => Sys2Proof.Machine.execRdTxData s
  | .wrTxData _ v => Sys2Proof.Machine.execWrTxData v s
  | .rdCondDropCnt _ => Sys2Proof.Machine.execRdCondDropCnt s
  | .wrCondDropCnt _ v => Sys2Proof.Machine.execWrCondDropCnt v s
  | .rdDecStats _ => Sys2Proof.Machine.execRdDecStats s
  | .wrDecStats _ v => Sys2Proof.Machine.execWrDecStats v s
  | .txStart _ v => Sys2Proof.Machine.execTxStart v s
  | .rdUnmapped2c _ => Sys2Proof.Machine.execRdUnmapped2c s
  | .rdUnmapped30to3c _ => Sys2Proof.Machine.execRdUnmapped30to3c s
  | .wrUnmapped2c _ v => Sys2Proof.Machine.execWrUnmapped2c v s
  | .wrUnmapped30to3c _ v => Sys2Proof.Machine.execWrUnmapped30to3c v s
  | .framePop => Sys2Proof.Machine.execFramePop s
  | .txSegment => Sys2Proof.Machine.execTxSegment s
  | .chPush e => Sys2Proof.Machine.execChPush e s
  | .chPop ch => Sys2Proof.Machine.execChPop ch s

end Sys2Proof.Machine
end

