-- ==== Sys2Proof/Machine/Cycle.lean ====
section
/-! DEFINITION. The cycle level: what one step of each clock domain does (R85, R121, R128, R149, R108), built from the
event-level operations that `exec` gives (R17). A step's choices are made on start-of-step values (R16); the operations
then run in an order in which none reads what another has written, but where a rule names the winner (R149):
consumer, classifier, host access, decoder, transmitter, synchronisers. -/

namespace Sys2Proof.Machine

/-- The word on a port is decoded and its operation runs; a word that asks for nothing does nothing (R65). -/
def runWord (w : PortWord) (s : State) : Result :=
  match decode w with
  | .ok i => exec i s
  | .error .noConsumerRequest => .next s

/-! ## The inputs of a step -/

/-- The inputs that come with a `clk_rx` edge; the output wire of the step before is cleared. -/
def Ports.latchRx (p : Ports) (e : Option RxEdge) : Ports :=
  match e with
  | none => p
  | some e => { p with rxNow := e.now, emitted := none }

/-- The inputs that come with a `clk_sys` edge; `bus_rdata` is 0 unless this step reads (R133). -/
def Ports.latchSys (p : Ports) (e : Option SysEdge) : Ports :=
  match e with
  | none => p
  | some e =>
    match e.bus with
    | none => { p with sysNow := e.now, busValid := false, busRdata := 0, condPopped := none }
    | some a =>
      { p with sysNow := e.now, busValid := true, busWe := a.we, busOff := a.off, busWdata := a.wdata
               busRdata := 0, condPopped := none }

/-- The input that comes with a `clk_cons` edge. -/
def Ports.latchCons (p : Ports) (e : Option ConsEdge) : Ports :=
  match e with
  | none => p
  | some e => { p with frameReady := e.ready, framePopped := none }

/-- The start of the step of the domains that have an edge in `t`. -/
def State.latch (s : State) (t : Tick) : State :=
  s.setIo (((s.io.latchRx t.rx).latchSys t.sys).latchCons t.cons)

/-! ## `clk_rx` (R83 to R85) -/

/-- The edge event of this step, as the EDGE word `(s_lvl, rx_now_us)` (R84, R66). -/
def State.edgeWord (s : State) : PortWord := .edge (BitVec.ofBool s.sLvl ++ s.io.rxNow)

/-- The receive side while disabled (R83). -/
def State.rxDisabled (s : State) : State :=
  (s.setRx { s.rx with det := .waitBitStart, prevLevel := s.sLvl, ovfPending := false }).emit none

/-- The classifier and the condition channel's write side in one `clk_rx` step (R85, R104). -/
def rxCycle (s : State) : Result :=
  if !s.rxEnView then .next s.rxDisabled
  else if s.sLvl != s.rx.prevLevel then runWord s.edgeWord s
  else if timeoutDue s.regs s.io.rxNow s.rx then exec .pauseTimeout s
  else .next (s.writeSide none)

/-! ## `clk_sys` (R121, R128, R148, R149) -/

/-- The access on the bus, as the BUS word `{we, off}` with its data (R77). -/
def State.busWord (s : State) : PortWord := .bus (BitVec.ofBool s.io.busWe ++ s.io.busOff) s.io.busWdata

/-- The host access of this step, if `bus_valid` is 1 (R133, R134). -/
def hostCycle (s : State) : Result := if s.io.busValid then runWord s.busWord s else .next s

/-- What the decoder does in a step (R121). -/
inductive DecAction where
  /-- Disabled, and no word is visible. -/
  | hold
  /-- Disabled: the visible word is popped and dropped. -/
  | drain (c : Code)
  /-- Enabled, and no word is visible. -/
  | wait
  /-- Enabled: the visible PAUSE would emit into a full frame channel (R120). -/
  | stall
  /-- Enabled: the visible word is consumed. -/
  | consume (c : Code)
  /-- A word is visible that the storage does not hold; R102 rules this out. -/
  | broken
  deriving DecidableEq, Repr

/-- The decoder's choice on start-of-step values (R121). -/
def State.decAction (s : State) : DecAction :=
  if s.cc.emptyR then (if s.regs.rxEn then .wait else .hold)
  else
    match s.cc.buf with
    | [] => .broken
    | c :: _ => if !s.regs.rxEn then .drain c else if s.wouldEmit c && s.fcFull then .stall else .consume c

/-- An OVERFLOW marker popped while disabled is still reported (R121). -/
def State.reportDrained (s : State) (c : Code) : State := if c = codeOverflow then s.raiseCondOvf else s

/-- The decoder disabled waits for a Sync with no partial frame (R121). -/
def State.decHold (s : State) : State := s.setDec (Dec.clearTo .waitSync)

/-- The decoder's step for its choice (R121). -/
def decoderCycle (a : DecAction) (s : State) : Result :=
  match a with
  | .hold => .next s.decHold
  | .wait => .next s
  | .stall => .next s
  | .broken => .fault (.popWithoutEntry .cc)
  | .drain c =>
    match s.popCond with
    | some (_, s') => .next (s'.reportDrained c).decHold
    | none => .fault (.popWithoutEntry .cc)
  | .consume c =>
    match s.popCond with
    | some (_, s') => runWord (.cond c) s'
    | none => .fault (.popWithoutEntry .cc)

/-- The transmitter's step: a segment boundary is tried if a telegram was being sent at the start of the step (R128). -/
def txCycle (busy : Bool) (s : State) : Result := if busy then exec .txSegment s else .next s

/-- The host access, the decoder and the transmitter in one `clk_sys` step, chosen on the start-of-step state `s0`
(R149). A decoder count comes after a host clear (R146), and a hardware set after a host clear (R139). -/
def sysCycle (s0 s : State) : Result :=
  andThen (hostCycle s) fun s => andThen (decoderCycle s0.decAction s) fun s => txCycle s0.tx.busy s

/-! ## `clk_cons` (R108) -/

/-- The consumer port's step: `frame_ready` asks for the head frame word. -/
def consCycle (s : State) : Result := runWord (.cons s.io.frameReady) s

/-! ## Fairness (R57) -/

/-- A source that did not move in this move is settled once its viewing domain has made a step. -/
def settledAfter (viewed was unchanged : Bool) : Bool := unchanged && (viewed || was)

/-- The fairness record after a move from `s0` to `s` in which the marked domains made a step. -/
def State.fairAfter (s0 s : State) (rx sys cons : Bool) : Fair :=
  { rxIn := settledAfter rx s0.fair.rxIn (s.io.rxIn == s0.io.rxIn)
    rxEn := settledAfter rx s0.fair.rxEn (s.regs.rxEn == s0.regs.rxEn)
    ccRead := settledAfter rx s0.fair.ccRead (s.cc.rcnt == s0.cc.rcnt)
    ccWrite := settledAfter sys s0.fair.ccWrite (s.cc.wcnt == s0.cc.wcnt)
    fcWrite := settledAfter cons s0.fair.fcWrite (s.fc.wcnt == s0.fc.wcnt)
    fcRead := settledAfter sys s0.fair.fcRead (s.fc.rcnt == s0.fc.rcnt)
    active := settledAfter sys s0.fair.active (s.rxEnView == s0.rxEnView)
    drop := settledAfter sys s0.fair.drop (s.rx.dropCnt == s0.rx.dropCnt) }

/-- Which synchronisers fairness forces in this step: those whose source has not moved since the start of their domain's
step before, this step included (R57). -/
def State.forced (s0 s : State) : Fair := s0.fairAfter s false false false

/-- The fairness record is brought up to date after a move from `s0`. -/
def State.settle (s0 s : State) (rx sys cons : Bool) : State := s.setFair (s0.fairAfter s rx sys cons)

/-! ## The synchronisers (R82, R101, R148), sampling start-of-step values -/

/-- The synchronisers that `clk_rx` views. -/
def State.shiftRx (s0 s : State) (e : RxEdge) : State :=
  let f := s0.forced s
  (s.setRx { s.rx with
    sync := stepBitSync f.rxIn e.keepRxIn s0.io.rxIn s0.rx.sync
    enSync := stepBitSync f.rxEn e.keepRxEn s0.regs.rxEn s0.rx.enSync }).setCc
    { s.cc with rsync := stepCountSync f.ccRead e.drawCcRead s0.cc.rcnt s0.cc.rsync }

/-- The synchronisers that `clk_sys` views. -/
def State.shiftSys (s0 s : State) (e : SysEdge) : State :=
  let f := s0.forced s
  ((s.setViews
    { rxActive := stepBitSync f.active e.keepActive s0.rxEnView s0.views.rxActive
      dropSync := stepDropSync f.drop e.drawDrop s0.rx.dropCnt s0.views.dropSync }).setCc
    { s.cc with wsync := stepCountSync f.ccWrite e.drawCcWrite s0.cc.wcnt s0.cc.wsync }).setFc
    { s.fc with rsync := stepCountSync f.fcRead e.drawFcRead s0.fc.rcnt s0.fc.rsync }

/-- The synchroniser that `clk_cons` views. -/
def State.shiftCons (s0 s : State) (e : ConsEdge) : State :=
  let f := s0.forced s
  s.setFc { s.fc with wsync := stepCountSync f.fcWrite e.drawFcWrite s0.fc.wcnt s0.fc.wsync }

/-- Every synchroniser of the domains that have an edge. -/
def State.shiftAll (s0 s : State) (t : Tick) : State :=
  let s := match t.rx with
    | some e => s0.shiftRx s e
    | none => s
  let s := match t.sys with
    | some e => s0.shiftSys s e
    | none => s
  match t.cons with
  | some e => s0.shiftCons s e
  | none => s

/-! ## One move of the environment -/

/-- The operations of the domains that have an edge, on the latched start-of-step state. -/
def tickOps (s0 : State) (t : Tick) : Result :=
  andThen (if t.cons.isSome then consCycle s0 else .next s0) fun s =>
  andThen (if t.rx.isSome then rxCycle s else .next s) fun s =>
  if t.sys.isSome then sysCycle s0 s else .next s

/-- Clock edges (R5, R16): the operations, then the synchronisers and the fairness record. -/
def clockStep (s : State) (t : Tick) : Result :=
  let s0 := s.latch t
  andThen (tickOps s0 t) fun s1 =>
    .next (s0.settle (s0.shiftAll s1 t) t.rx.isSome t.sys.isSome t.cons.isSome)

/-- `rst` goes to 1 (R166): every state element takes its reset value at once and the outputs are 0; what the environment
drives stays. -/
def State.assertRst (s : State) : State :=
  { State.resetWith s.params with
    io := { s.io with rst := true, busRdata := 0, emitted := none, condPopped := none, framePopped := none }
    moves := s.moves
    freeIdx := s.freeIdx }

/-- One move: the line is driven, `rst` is driven, or clock edges fall. While `rst` is 1 no domain steps (R166). -/
def applyMove (m : Move) (s : State) : Result :=
  match m with
  | .line l => .next (s.settle (s.setIo { s.io with rxIn := l }) false false false)
  | .rst true => .next s.assertRst
  | .rst false => .next (s.setIo { s.io with rst := false })
  | .clock t => if s.io.rst then .next s else clockStep s t

/-- The environment's next move, and the state without it: the next placed move, or a free one (assumption 2). -/
def State.takeMove (s : State) : Move × State :=
  match s.moves with
  | m :: rest => (m, s.setMoves rest)
  | [] => (Config.envMove s.freeIdx, s.setFreeIdx (s.freeIdx + 1))

/-! ## Placing one word so that the next step runs it -/

/-- A tick with an edge of `clk_rx` only. -/
def rxTick (e : RxEdge) : Tick := { rx := some e, sys := none, cons := none }

/-- A tick with an edge of `clk_sys` only. -/
def sysTick (e : SysEdge) : Tick := { rx := none, sys := some e, cons := none }

/-- A tick with an edge of `clk_cons` only. -/
def consTick (e : ConsEdge) : Tick := { rx := none, sys := none, cons := some e }

/-- A `clk_sys` edge at the time the port shows, every draw taking the source's value. -/
def State.plainSysEdge (s : State) (bus : Option BusAccess) : SysEdge :=
  { now := s.io.sysNow
    bus := bus
    keepActive := false
    drawDrop := s.rx.dropCnt.toNat
    drawCcWrite := s.cc.wcnt
    drawFcRead := s.fc.rcnt }

/-- A `clk_rx` edge at `now`, every draw taking the source's value. -/
def State.plainRxEdge (s : State) (now : Stamp) : RxEdge :=
  { now := now
    keepRxIn := false
    keepRxEn := false
    drawCcRead := s.cc.rcnt }

/-- `s` with the clock edges `t` as its next move and `rst` low. -/
def State.placeTick (s : State) (t : Tick) : State :=
  (s.setIo { s.io with rst := false }).setMoves (.clock t :: s.moves)

/-- The word stands where the next step reads it (assumption 1): an EDGE word as a change of the synchronised level that
an enabled receive side sees, a COND word at the head of a visible condition channel, a BUS word on the bus, and a consumer
request on `frame_ready`. -/
def State.placeWord (s : State) (w : PortWord) : State :=
  match w with
  | .edge e =>
    let lvl := e.getLsbD 64
    (s.setRx { s.rx with
      sync := List.replicate s.params.syncStages lvl
      enSync := List.replicate s.params.syncStages true
      prevLevel := !lvl }).placeTick (rxTick (s.plainRxEdge (e.setWidth 64)))
  | .cond c =>
    ((s.setRegs { s.regs with rxEn := true }).setCc { s.cc with
      buf := c :: s.cc.buf
      wcnt := s.cc.wcnt + 1
      wsync := List.replicate s.params.syncStages (s.cc.wcnt + 1) }).placeTick (sysTick (s.plainSysEdge none))
  | .bus code wdata =>
    s.placeTick (sysTick (s.plainSysEdge (some { we := code.getLsbD 6, off := code.setWidth 6, wdata := wdata })))
  | .cons ready => s.placeTick (consTick { ready := ready, drawFcWrite := s.fc.wcnt })

/-- The table's number placed as the word it stands for. -/
def State.placeTableWord (s : State) (nbits w : Nat) : State :=
  match tableWord nbits w with
  | some p => s.placeWord p
  | none => s

end Sys2Proof.Machine
end

