-- ==== Sys2Proof/Machine/Step.lean ====
section
/-! DEFINITION. The step of the machine: one move of the environment (R5, R6, R166). -/

namespace Sys2Proof.Machine

/-- One step: the environment's next move acts on the block. -/
def step (s : State) : Host.Outcome State Fault Refusal := applyMove s.takeMove.1 s.takeMove.2

/-- `s` with the table's word placed so that the very next step runs it (assumption 1). -/
def State.withFetchWord (s : State) (nbits w : Nat) : State := s.placeTableWord nbits w

end Sys2Proof.Machine
end

