-- ==== Sys2Proof/Machine/Stimulus.lean ====
section
/-! DEFINITION. The stimulus notation of R80 and R81, the host sequences of R150, the waveform of a telegram (R75, R76,
R126), and runs of the two event-level functions on a sequence of inputs (R17, R90, R114). -/

namespace Sys2Proof.Machine

/-- The registers of the map (R46). -/
inductive RegName where
  | id
  | ctrl
  | status
  | irqStatus
  | irqEnable
  | timing0
  | timing1
  | rxcfg
  | txData
  | condDropCnt
  | decStats
  deriving DecidableEq, Repr

/-- The byte offset of a register (R46). -/
def RegName.offset (r : RegName) : BitVec 6 :=
  match r with
  | .id => 0x00#6
  | .ctrl => 0x04#6
  | .status => 0x08#6
  | .irqStatus => 0x0C#6
  | .irqEnable => 0x10#6
  | .timing0 => 0x14#6
  | .timing1 => 0x18#6
  | .rxcfg => 0x1C#6
  | .txData => 0x20#6
  | .condDropCnt => 0x24#6
  | .decStats => 0x28#6

/-- The statements of R80 that act; `EXPECT` states what is looked for and is no input. -/
inductive Stmt where
  | wr (r : RegName) (v : Word)
  | rd (r : RegName)
  | edge (l : Bool) (t : Stamp)
  | line (l : Bool)
  | atTime (t : Stamp)
  | pop
  deriving DecidableEq, Repr

/-- The encoding column of R80: the port word of a statement that has one. -/
def Stmt.word (st : Stmt) : Option PortWord :=
  match st with
  | .wr r v => some (.bus (1#1 ++ r.offset) v)
  | .rd r => some (.bus (0#1 ++ r.offset) 0#32)
  | .edge l t => some (.edge (BitVec.ofBool l ++ t))
  | .pop => some (.cons true)
  | .line _ => none
  | .atTime _ => none

/-- A statement at the event level: a port word runs its operation, `AT t` is a `clk_rx` step at `t` with no edge, and
`LINE` drives the port. -/
def runStmt (st : Stmt) (s : State) : Result :=
  match st with
  | .wr r v => runWord (.bus (1#1 ++ r.offset) v) s
  | .rd r => runWord (.bus (0#1 ++ r.offset) 0#32) s
  | .edge l t => runWord (.edge (BitVec.ofBool l ++ t)) (s.setIo { s.io with rxNow := t })
  | .line l => .next (s.setIo { s.io with rxIn := l })
  | .atTime t => exec .pauseTimeout (s.setIo { s.io with rxNow := t })
  | .pop => runWord (.cons true) s

/-- Statements one after another. -/
def runStmts (l : List Stmt) (s : State) : Result :=
  match l with
  | [] => .next s
  | st :: rest => andThen (runStmt st s) (runStmts rest)

/-! ## Pseudo-statements (R81) -/

/-- `CFG T=a TM=b TP=c G=d PTO=e`. -/
def cfgStmts (a b c d : Half) (e : Bool) : List Stmt :=
  [.wr .timing0 (d ++ a), .wr .timing1 (c ++ b), .wr .rxcfg (0#31 ++ BitVec.ofBool e)]

/-- `ENABLE`. -/
def enableStmts : List Stmt := [.wr .ctrl 1]

/-- `DISABLE`, with the polls of STATUS that the host makes until bit 0 reads 0. -/
def disableStmts (polls : Nat) : List Stmt := .wr .ctrl 0 :: List.replicate polls (.rd .status)

/-- `SEND F`, keeping the current RX_EN. -/
def sendStmts (f : Word) (rxEn : Bool) : List Stmt :=
  [.wr .txData f, .wr .ctrl (0#30 ++ 1#1 ++ BitVec.ofBool rxEn)]

/-- `PULSE h, l @ t`; the low phase lasts until the next edge, at `t + h + l`. -/
def pulseStmts (h : Stamp) (t : Stamp) : List Stmt := [.edge true t, .edge false (t + h)]

/-- The 132 edges of the telegram whose wire word is `w`, with unit `T`, from `t` (R126). -/
def telegramEdges (w : Word) (T : Nat) (t : Stamp) : List (Bool × Stamp) :=
  (List.range 132).map fun k => (segLevel k, t + BitVec.ofNat 64 (T * segOffset w k))

/-- `TELEGRAM F @ t`. -/
def telegramStmts (f : Word) (T : Nat) (t : Stamp) : List Stmt :=
  (telegramEdges (permP f) T t).map fun e => .edge e.1 e.2

/-! ## The host's sequences (R150) -/

/-- Configure: the receive path is off and the guard holds after `polls` reads of STATUS; each write is read back. -/
def configureSeq (v0 v1 v2 : Word) (polls : Nat) : List Stmt :=
  .wr .ctrl 0 :: List.replicate polls (.rd .status) ++
    [.wr .timing0 v0, .wr .timing1 v1, .wr .rxcfg v2, .rd .timing0, .rd .timing1, .rd .rxcfg]

/-- Enable reception. -/
def enableSeq : List Stmt := [.wr .irqStatus 7, .wr .irqEnable 4, .wr .ctrl 1]

/-- Take a frame: acknowledge FRAME_PUSHED; the consumer port delivers the words. -/
def takeFrameSeq : List Stmt := [.wr .irqStatus 4, .pop]

/-- Transmit one telegram. -/
def transmitSeq (f : Word) (rxEn : Bool) : List Stmt := sendStmts f rxEn

/-- Disable and drain. -/
def drainSeq (polls : Nat) : List Stmt := disableStmts polls

/-- Read the diagnostics. -/
def diagnosticsSeq : List Stmt := [.rd .condDropCnt, .rd .decStats, .wr .decStats 0]

/-! ## Which domains make a step in a move (R5) -/

/-- The move holds an edge of `clk_rx`. -/
def Move.rxEdge (m : Move) : Bool :=
  match m with
  | .clock k => k.rx.isSome
  | .line _ => false
  | .rst _ => false

/-- The move holds an edge of `clk_sys`. -/
def Move.sysEdge (m : Move) : Bool :=
  match m with
  | .clock k => k.sys.isSome
  | .line _ => false
  | .rst _ => false

/-- The move holds an edge of `clk_cons`. -/
def Move.consEdge (m : Move) : Bool :=
  match m with
  | .clock k => k.cons.isSome
  | .line _ => false
  | .rst _ => false

/-! ## Runs of the event-level functions -/

/-- The two conditions of a logical bit (R74). -/
def bitConds (b : Bool) : List Code := if b then [codeMark, codeSpace] else [codeSpace, codeMark]

/-- The conditions a receiver sees for a clean telegram before its Pause (R76). -/
def telegramBody (w : Word) : List Code := codeSync :: (List.range 32).flatMap fun i => bitConds (w.getLsbD i)

/-- The 66 conditions of a clean telegram (R76). -/
def telegramConds (w : Word) : List Code := telegramBody w ++ [codePause]

/-- The classifier's event-level function on a sequence of edge events: the conditions in order and the last state. -/
def detRun (g : Regs) (l : List (Bool × Stamp)) (r : Rx) : List Code × Rx :=
  match l with
  | [] => ([], r)
  | e :: rest =>
    let o := detEvent g e.1 e.2 r
    let q := detRun g rest o.2
    (o.1.toList ++ q.1, q.2)

/-- The decoder's event-level function on a sequence of condition words: the last state and the outputs in order. -/
def decRun (l : List Code) (d : Dec) : Dec × List DecOut :=
  match l with
  | [] => (d, [])
  | c :: rest =>
    let o := decEvent c d
    let q := decRun rest o.1
    (q.1, o.2 :: q.2)

end Sys2Proof.Machine
end

