-- ==== Sys2Proof/Safety.lean ====
section
/-! DEFINITION. What a safe state is, in the terms of the properties that the spec derives: channel safety (R102), the
classifier's reachability (R95), produced codes (R68, R95), the decoder's partial frame (R110, R116), the transmitter's
idle state and level (R38, R39, R129), the drain of the receive side (R59), the schedule of a telegram (R130), and a source that
stays unchanged (R57). -/

namespace Sys2Proof.Machine

/-- The stages of a count's synchroniser lie in falling order between the source `hi` and the bound `lo` (R55, R56). -/
def descends (hi : Nat) (stages : List Nat) (lo : Nat) : Bool :=
  match stages with
  | [] => decide (lo ≤ hi)
  | x :: rest => decide (x ≤ hi) && descends x rest lo

/-- Channel safety with every synchroniser stage (R30, R102): `rview ≤ rcnt ≤ wview ≤ wcnt ≤ rview + DEPTH`. -/
def Chan.safe {w : Nat} (c : Chan w) (stages depth : Nat) : Bool :=
  c.wsync.length == stages && c.rsync.length == stages && descends c.wcnt c.wsync c.rcnt
    && descends c.rcnt c.rsync (c.wcnt - depth) && c.buf.length + c.rcnt == c.wcnt

/-- A code that the hardware can push: 0 to 4 and 7 to 9 (R67, R68, R95). -/
def producible (c : Code) : Bool := decide (c.toNat ≤ 9) && c != codeBadEdgeAfterHigh && c != codeBadEdgeAfterLow

/-- The level recorded with each classifier state (R95). -/
def Rx.levelSafe (r : Rx) : Bool :=
  match r.det with
  | .waitBitStart => true
  | .waitHighToLow => r.prevLevel
  | .waitLowDecision => !r.prevLevel

/-- No bit of the partial frame at or above the bit count is set (R116), and in `WaitSync` there is none (R110). -/
def Dec.safe (d : Dec) : Bool :=
  (d.state != .waitSync || (d.acc == 0 && d.cnt == 0)) && d.acc >>> d.cnt.toNat == 0

/-- The level driven is the segment's; idle, it is low and the segment index is 0 (R38, R39, R129). -/
def Tx.safe (t : Tx) : Bool :=
  decide (t.seg.toNat ≤ 131) && (t.busy || t.seg == 0) && t.out == (t.busy && segLevel t.seg.toNat)

/-- The invariant of the block: what every step keeps. -/
structure Inv (s : State) : Prop where
  params : legalParams s.params = true
  rxStages : s.rx.sync.length = s.params.syncStages ∧ s.rx.enSync.length = s.params.syncStages
  level : s.rx.levelSafe = true
  cond : s.cc.safe s.params.syncStages s.params.condDepth = true
  frame : s.fc.safe s.params.syncStages s.params.frameDepth = true
  codes : s.cc.buf.all producible = true
  active : s.views.rxActive.length = s.params.syncStages + 1
  drop : s.views.dropSync.length = s.params.syncStages
    ∧ descends s.rx.dropCnt.toNat (s.views.dropSync.map BitVec.toNat) 0 = true
  dec : s.dec.safe = true
  tx : s.tx.safe = true

/-- Reception is being switched off (R59): the enable is 0, its synchroniser falls in order, and each stage of
`rx_active_s` that has fallen shows that the last push has reached the stage before it. -/
structure Draining (s : State) : Prop where
  off : s.regs.rxEn = false
  falling : ∀ i j : Nat, i ≤ j → s.rx.enSync[j]? = some false → s.rx.enSync[i]? = some false
  reached : ∀ k : Nat, s.views.rxActive[k]? = some false → s.rxEnView = false ∧
    ∀ j : Nat, j < k → s.views.rxActive[j]? = some false ∧ s.cc.wsync[j]? = some s.cc.wcnt
  first : s.views.rxActive[0]? = some false → s.fair.ccWrite = true ∨ s.cc.wsync[0]? = some s.cc.wcnt

/-- A telegram that began at `start` is on its schedule (R126, R130): the segment shown is one of the 132, at its level, and
began at `start` plus its offset. -/
structure OnSchedule (start : Stamp) (s : State) : Prop where
  busy : s.tx.busy = true
  seg : s.tx.seg.toNat ≤ 131
  level : s.tx.out = segLevel s.tx.seg.toNat
  began : s.tx.t0 = start + BitVec.ofNat 64 (s.regs.tUs.toNat * segOffset s.tx.word s.tx.seg.toNat)

/-- The value `src` shows is the same at every point of the next `n` steps from `s` (R57). -/
def StaysDuring {α : Type} (s : State) (n : Nat) (src : State → α) : Prop :=
  ∀ (j : Nat) (u : State), j ≤ n → Host.Core.run Sys2Proof.core j s = .next u → src u = src s

end Sys2Proof.Machine
end

