-- ==== Sys2Proof/Certificates/Slice0/Obligations.lean ====
section
/-! DEFINITION. The statements for the provers: what the numbered rules of spec/ say the block does. -/

open Sys2Proof Sys2Proof.Machine

/-! ## Encodings -/

/-- Decoding what the encoder writes gives the operation back, every operand at every value (R65, R66, R67, R77). -/
def Obligations.DecodeOfEncodeGivesTheOperation : Prop :=
  ∀ (i : Instr) (w : PortWord), wellFormed i = true → encode i = some w → decode w = .ok i

/-- Every word that decodes is the encoding of a well-formed operation, but for the write data of a read, which is
ignored (R77). -/
def Obligations.EncodeOfDecodeGivesTheWord : Prop :=
  ∀ (w : PortWord) (i : Instr), decode w = .ok i → wellFormed i = true ∧ encode i = some
    (match w with
      | .edge e => .edge e
      | .cond c => .cond c
      | .bus code v => .bus code (if code.getLsbD 6 then v else 0)
      | .cons r => .cons r)

/-- Words written out from the spec's encodings decode to their operations (R66, R67, R77; vectors V-ENC8 to V-ENC10). -/
def Obligations.WordsOfTheSpecDecode : Prop :=
  decode (.edge 0x100000000000003E8#65) = .ok (.edgeRise 1000) ∧
  decode (.edge 0x000000000000004E2#65) = .ok (.edgeFall 1250) ∧
  decode (.cond 0b1001#4) = .ok .condOverflow ∧
  decode (.cond 0b0010#4) = .ok .condSync ∧
  decode (.bus 0x08#7 0) = .ok (.rdStatus 0) ∧
  decode (.bus 0x0B#7 0) = .ok (.rdStatus 3) ∧
  decode (.bus 0x44#7 0x1#32) = .ok (.wrCtrl 0 0x1#32) ∧
  decode (.bus 0x44#7 0x2#32) = .ok (.txStart 0 0x2#32) ∧
  decode (.bus 0x4C#7 0x7#32) = .ok (.wrIrqStatus 0 0x7#32) ∧
  decode (.cons true) = .ok .framePop

/-- R49: the register is selected by `bus_off[5:2]`; the two low bits never matter, and no access traps. What a read of a
slot shows is the slot's register value; the registers' own statements say what each value and each write is. -/
def Obligations.LowOffsetBitsAreIgnored : Prop :=
  ∀ (we : BitVec 1) (slot : BitVec 4) (x y : BitVec 2) (v : Word) (s : State),
    exec (decodeBus (we ++ slot ++ x) v) s = exec (decodeBus (we ++ slot ++ y) v) s ∧
    (∃ t, exec (decodeBus (we ++ slot ++ x) v) s = .next t) ∧
    exec (decodeBus (0#1 ++ slot ++ x) v) s = .next (s.setIo { s.io with busRdata := s.regval slot })

/-- R69, R70, R72: the fields of a frame word at their bit positions, `stationId` 25:0, `group` 26, `state` 27, `channel` 29:28
and `unit` 31:30, both when a word is built and when a field is read; and the permutation P bit by bit, which is its own
inverse. -/
def Obligations.FrameAndWireWordsAreRelatedByP : Prop :=
  (∀ (u c : BitVec 2) (st gr : Bool) (id : BitVec 26) (i : Nat), i < 32 →
    (frameWord u c st gr id).getLsbD i =
      if i < 26 then id.getLsbD i
      else if i = 26 then gr
      else if i = 27 then st
      else if i < 30 then c.getLsbD (i - 28)
      else u.getLsbD (i - 30)) ∧
  (∀ f : Word, (∀ i : Nat, i < 26 → (stationId f).getLsbD i = f.getLsbD i) ∧
    group f = f.getLsbD 26 ∧ frameState f = f.getLsbD 27 ∧
    (channel f).getLsbD 0 = f.getLsbD 28 ∧ (channel f).getLsbD 1 = f.getLsbD 29 ∧
    (unit f).getLsbD 0 = f.getLsbD 30 ∧ (unit f).getLsbD 1 = f.getLsbD 31) ∧
  (stationId 0xFA00A55A = 0x200A55A ∧ group 0xFA00A55A = false ∧ frameState 0xFA00A55A = true ∧
    channel 0xFA00A55A = 0b11 ∧ unit 0xFA00A55A = 0b11) ∧
  (∀ (u c : BitVec 2) (st gr : Bool) (id : BitVec 26),
    stationId (frameWord u c st gr id) = id ∧ group (frameWord u c st gr id) = gr ∧
    frameState (frameWord u c st gr id) = st ∧ channel (frameWord u c st gr id) = c ∧
    unit (frameWord u c st gr id) = u) ∧
  (∀ f : Word, frameWord (unit f) (channel f) (frameState f) (group f) (stationId f) = f) ∧
  (∀ x : Word, permP (permP x) = x) ∧
  (∀ (x : Word) (i : Nat), i < 28 → (permP x).getLsbD i = x.getLsbD i) ∧
  (∀ x : Word, (permP x).getLsbD 28 = x.getLsbD 29 ∧ (permP x).getLsbD 29 = x.getLsbD 28 ∧
    (permP x).getLsbD 30 = x.getLsbD 31 ∧ (permP x).getLsbD 31 = x.getLsbD 30)

/-! ## Host registers -/

/-- R136: ID reads its constant; a write of it is ignored (a write step shows `bus_rdata` = 0, R133). -/
def Obligations.IdIsConstant : Prop :=
  ∀ (s : State) (x : BitVec 2) (v : Word),
    exec (.rdId x) s = .next (s.setIo { s.io with busRdata := 0x4E58#16 ++ 0x0001#16 }) ∧
    exec (.wrId x v) s = .next (s.setIo { s.io with busRdata := 0 }) ∧
    decode (.bus 0x00#7 v) = .ok (.rdId 0) ∧ decode (.bus 0x40#7 v) = .ok (.wrId 0 v)

/-- R137: CTRL reads RX_EN; every write sets RX_EN from bit 0, and bit 1 starts a telegram when none is being sent. -/
def Obligations.CtrlReadsAndWrites : Prop :=
  ∀ (s : State) (x : BitVec 2) (v : Word),
    exec (.rdCtrl x) s = .next (s.setIo { s.io with busRdata := if s.regs.rxEn then 1 else 0 }) ∧
    (v.getLsbD 1 = false → exec (.wrCtrl x v) s =
      .next ((s.setIo { s.io with busRdata := 0 }).setRegs { s.regs with rxEn := v.getLsbD 0 })) ∧
    (v.getLsbD 1 = true → s.tx.busy = true → exec (.txStart x v) s =
      .next ((s.setIo { s.io with busRdata := 0 }).setRegs { s.regs with rxEn := v.getLsbD 0 })) ∧
    (v.getLsbD 1 = true → s.tx.busy = false → exec (.txStart x v) s =
      .next (((s.setIo { s.io with busRdata := 0 }).setRegs { s.regs with rxEn := v.getLsbD 0 }).setTx
        { busy := true, out := true, seg := 0, t0 := s.io.sysNow, word := permP s.regs.txData })) ∧
    decode (.bus 0x04#7 v) = .ok (.rdCtrl 0) ∧
    decode (.bus 0x44#7 v) = .ok (if v.getLsbD 1 then .txStart 0 v else .wrCtrl 0 v) ∧
    State.reset.regs.rxEn = false

/-- R127: an accepted start latches P(TX_DATA), begins segment 0 high at `sys_now_us`, and STATUS shows TX_BUSY and
TX_LEVEL; a start while a telegram is being sent leaves the transmitter alone, and no operation but its own segment
boundaries touches a telegram. -/
def Obligations.StartBeginsATelegram : Prop :=
  (∀ (s : State) (x : BitVec 2) (v : Word), v.getLsbD 1 = true → decode (.bus 0x44#7 v) = .ok (.txStart 0 v) ∧
    ∃ t, exec (.txStart x v) s = .next t ∧ t.regs = { s.regs with rxEn := v.getLsbD 0 } ∧
      (s.tx.busy = true → t.tx = s.tx) ∧
      (s.tx.busy = false → t.tx.word = permP s.regs.txData ∧ t.tx.busy = true ∧ t.tx.seg = 0 ∧
        t.tx.t0 = s.io.sysNow ∧ t.tx.out = true ∧ (t.regval 2).getLsbD 1 = true ∧ (t.regval 2).getLsbD 2 = true)) ∧
  (∀ (i : Instr) (s t : State), i ≠ .txSegment → s.tx.busy = true → exec i s = .next t → t.tx = s.tx)

/-- R138: the fields of STATUS, all on the state at the start of the step; a write is ignored. -/
def Obligations.StatusShowsItsFields : Prop :=
  ∀ (s : State) (x : BitVec 2) (v : Word),
    (∃ w : Word, exec (.rdStatus x) s = .next (s.setIo { s.io with busRdata := w }) ∧
      w.getLsbD 0 = (s.views.rxActive.getLastD false || s.cc.wsync.getLastD 0 != s.cc.rcnt) ∧
      w.getLsbD 1 = s.tx.busy ∧
      w.getLsbD 2 = s.tx.out ∧
      w.getLsbD 3 = (s.fc.wcnt == s.fc.rsync.getLastD 0 + s.params.frameDepth) ∧
      w.getLsbD 4 = (s.cc.wsync.getLastD 0 == s.cc.rcnt) ∧
      w.extractLsb' 5 2 = (match s.dec.state with
        | .waitSync => 0b00#2
        | .waitBitStart => 0b01#2
        | .waitSpace => 0b10#2
        | .waitMark => 0b11#2) ∧
      w.extractLsb' 7 6 = s.dec.cnt ∧
      w.extractLsb' 13 19 = 0) ∧
    exec (.wrStatus x v) s = .next (s.setIo { s.io with busRdata := 0 }) ∧
    decode (.bus 0x08#7 v) = .ok (.rdStatus 0) ∧ decode (.bus 0x48#7 v) = .ok (.wrStatus 0 v)

/-- R139: IRQ_STATUS reads its three bits; a bit written as 1 is cleared; and over a whole `clk_sys` step a bit ends set if
the hardware sets it in that step, and else if it was set and the step's access does not clear it. The hardware sets
TX_DONE at the end of a telegram, COND_OVF at the pop of an OVERFLOW marker, and FRAME_PUSHED at the push of a frame. -/
def Obligations.IrqStatusSetBeatsClear : Prop :=
  (∀ (s : State) (x : BitVec 2) (v : Word),
    (∃ w : Word, exec (.rdIrqStatus x) s = .next (s.setIo { s.io with busRdata := w }) ∧
      w.getLsbD 0 = s.regs.txDone ∧ w.getLsbD 1 = s.regs.condOvf ∧ w.getLsbD 2 = s.regs.framePushed ∧
      w.extractLsb' 3 29 = 0) ∧
    exec (.wrIrqStatus x v) s = .next ((s.setIo { s.io with busRdata := 0 }).setRegs { s.regs with
      txDone := s.regs.txDone && !v.getLsbD 0
      condOvf := s.regs.condOvf && !v.getLsbD 1
      framePushed := s.regs.framePushed && !v.getLsbD 2 }) ∧
    decode (.bus 0x0C#7 v) = .ok (.rdIrqStatus 0) ∧ decode (.bus 0x4C#7 v) = .ok (.wrIrqStatus 0 v)) ∧
  (∀ (s t : State) (k : Tick) (e : SysEdge) (rest : List Move),
    s.moves = .clock k :: rest → s.io.rst = false → k.sys = some e → step s = .next t →
    let clear (i : Nat) : Bool := match e.bus with
      | some a => a.we && a.off.extractLsb' 2 4 == 3 && a.wdata.getLsbD i
      | none => false
    t.regs.txDone = ((s.tx.busy && decide (131 ≤ s.tx.seg.toNat) &&
        decide (segMul s.tx.word s.tx.seg.toNat * s.regs.tUs.toNat ≤ (e.now - s.tx.t0).toNat)) ||
      (s.regs.txDone && !clear 0)) ∧
    t.regs.condOvf = ((t.cc.rcnt != s.cc.rcnt && s.cc.buf.head? == some codeOverflow) ||
      (s.regs.condOvf && !clear 1)) ∧
    t.regs.framePushed = (t.fc.wcnt != s.fc.wcnt || (s.regs.framePushed && !clear 2))) ∧
  (State.reset.regs.txDone = false ∧ State.reset.regs.condOvf = false ∧ State.reset.regs.framePushed = false)

/-- R140: IRQ_ENABLE reads and writes its three bits. -/
def Obligations.IrqEnableReadsAndWrites : Prop :=
  ∀ (s : State) (x : BitVec 2) (v : Word),
    (∃ w : Word, exec (.rdIrqEnable x) s = .next (s.setIo { s.io with busRdata := w }) ∧
      w.extractLsb' 0 3 = s.regs.irqEnable ∧ w.extractLsb' 3 29 = 0) ∧
    exec (.wrIrqEnable x v) s = .next ((s.setIo { s.io with busRdata := 0 }).setRegs
      { s.regs with irqEnable := v.extractLsb' 0 3 }) ∧
    decode (.bus 0x10#7 v) = .ok (.rdIrqEnable 0) ∧ decode (.bus 0x50#7 v) = .ok (.wrIrqEnable 0 v) ∧
    State.reset.regs.irqEnable = 0

/-- R135, R141, R142, R143: TIMING0, TIMING1 and RXCFG read their fields; a write takes effect exactly when RX_EN,
RX_ACTIVE and `tx_busy` are all 0 at the start of the step, and otherwise is ignored. -/
def Obligations.ConfigurationWritesAreGuarded : Prop :=
  ∀ (s : State) (x : BitVec 2) (v : Word),
    (∃ w : Word, exec (.rdTiming0 x) s = .next (s.setIo { s.io with busRdata := w }) ∧
      w.extractLsb' 0 16 = s.regs.tUs ∧ w.extractLsb' 16 16 = s.regs.pauseGuardUs) ∧
    (∃ w : Word, exec (.rdTiming1 x) s = .next (s.setIo { s.io with busRdata := w }) ∧
      w.extractLsb' 0 16 = s.regs.tolMinusUs ∧ w.extractLsb' 16 16 = s.regs.tolPlusUs) ∧
    (∃ w : Word, exec (.rdRxcfg x) s = .next (s.setIo { s.io with busRdata := w }) ∧
      w.getLsbD 0 = s.regs.pauseTimeoutEn ∧ w.extractLsb' 1 31 = 0) ∧
    (if s.regs.rxEn = false ∧ (s.views.rxActive.getLastD false = false ∧ s.cc.wsync.getLastD 0 = s.cc.rcnt) ∧
        s.tx.busy = false then
      exec (.wrTiming0 x v) s = .next ((s.setIo { s.io with busRdata := 0 }).setRegs
        { s.regs with tUs := v.extractLsb' 0 16, pauseGuardUs := v.extractLsb' 16 16 }) ∧
      exec (.wrTiming1 x v) s = .next ((s.setIo { s.io with busRdata := 0 }).setRegs
        { s.regs with tolMinusUs := v.extractLsb' 0 16, tolPlusUs := v.extractLsb' 16 16 }) ∧
      exec (.wrRxcfg x v) s = .next ((s.setIo { s.io with busRdata := 0 }).setRegs
        { s.regs with pauseTimeoutEn := v.getLsbD 0 })
    else
      exec (.wrTiming0 x v) s = .next (s.setIo { s.io with busRdata := 0 }) ∧
      exec (.wrTiming1 x v) s = .next (s.setIo { s.io with busRdata := 0 }) ∧
      exec (.wrRxcfg x v) s = .next (s.setIo { s.io with busRdata := 0 })) ∧
    decode (.bus 0x14#7 v) = .ok (.rdTiming0 0) ∧ decode (.bus 0x54#7 v) = .ok (.wrTiming0 0 v) ∧
    decode (.bus 0x18#7 v) = .ok (.rdTiming1 0) ∧ decode (.bus 0x58#7 v) = .ok (.wrTiming1 0 v) ∧
    decode (.bus 0x1C#7 v) = .ok (.rdRxcfg 0) ∧ decode (.bus 0x5C#7 v) = .ok (.wrRxcfg 0 v) ∧
    (State.reset.regs.tUs = 250 ∧ State.reset.regs.pauseGuardUs = 150 ∧ State.reset.regs.tolMinusUs = 150 ∧
      State.reset.regs.tolPlusUs = 250 ∧ State.reset.regs.pauseTimeoutEn = true)

/-- R144: TX_DATA reads and writes whole; a write leaves the latched wire word of a telegram in flight alone. -/
def Obligations.TxDataReadsAndWrites : Prop :=
  ∀ (s : State) (x : BitVec 2) (v : Word),
    exec (.rdTxData x) s = .next (s.setIo { s.io with busRdata := s.regs.txData }) ∧
    exec (.wrTxData x v) s = .next ((s.setIo { s.io with busRdata := 0 }).setRegs { s.regs with txData := v }) ∧
    decode (.bus 0x20#7 v) = .ok (.rdTxData 0) ∧ decode (.bus 0x60#7 v) = .ok (.wrTxData 0 v) ∧
    State.reset.regs.txData = 0

/-- R145: COND_DROP_CNT reads the `clk_sys` view of the drop counter; a write is ignored; and only `rst` lowers the counter. -/
def Obligations.CondDropCntShowsTheView : Prop :=
  (∀ (s : State) (x : BitVec 2) (v : Word),
    (∃ w : Word, exec (.rdCondDropCnt x) s = .next (s.setIo { s.io with busRdata := w }) ∧
      w.extractLsb' 0 16 = s.views.dropSync.getLastD 0 ∧ w.extractLsb' 16 16 = 0) ∧
    exec (.wrCondDropCnt x v) s = .next (s.setIo { s.io with busRdata := 0 }) ∧
    decode (.bus 0x24#7 v) = .ok (.rdCondDropCnt 0) ∧ decode (.bus 0x64#7 v) = .ok (.wrCondDropCnt 0 v)) ∧
  (∀ s t : State, s.takeMove.1 ≠ .rst true → step s = .next t → s.rx.dropCnt.toNat ≤ t.rx.dropCnt.toNat)

/-- R146: DEC_STATS reads both counters and any write clears both; and over a whole `clk_sys` step each counter starts from 0
if the step's access writes DEC_STATS and from its value otherwise, and counts the decoder's event of that step on top,
so that an event counted in the step of the clear survives as 1. -/
def Obligations.DecStatsCountSurvivesTheClear : Prop :=
  (∀ (s : State) (x : BitVec 2) (v : Word),
    (∃ w : Word, exec (.rdDecStats x) s = .next (s.setIo { s.io with busRdata := w }) ∧
      w.extractLsb' 0 16 = s.regs.discardCnt ∧ w.extractLsb' 16 16 = s.regs.violationCnt) ∧
    exec (.wrDecStats x v) s = .next ((s.setIo { s.io with busRdata := 0 }).setRegs
      { s.regs with discardCnt := 0, violationCnt := 0 }) ∧
    decode (.bus 0x28#7 v) = .ok (.rdDecStats 0) ∧ decode (.bus 0x68#7 v) = .ok (.wrDecStats 0 v)) ∧
  (∀ (s t : State) (k : Tick) (e : SysEdge) (rest : List Move),
    s.moves = .clock k :: rest → s.io.rst = false → k.sys = some e → step s = .next t →
    let cleared : Bool := match e.bus with
      | some a => a.we && a.off.extractLsb' 2 4 == 10
      | none => false
    let base (x : Half) : Half := if cleared then 0 else x
    let bump (x : Half) : Half := if x = 0xFFFF then 0xFFFF else x + 1
    let counts (o : DecOut) : Prop := s.regs.rxEn = true ∧ t.cc.rcnt ≠ s.cc.rcnt ∧
      (decEvent (s.cc.buf.headD 0) s.dec).2 = o
    (counts .violation → t.regs.violationCnt = bump (base s.regs.violationCnt)) ∧
    (¬counts .violation → t.regs.violationCnt = base s.regs.violationCnt) ∧
    (counts .discard → t.regs.discardCnt = bump (base s.regs.discardCnt)) ∧
    (¬counts .discard → t.regs.discardCnt = base s.regs.discardCnt)) ∧
  (State.reset.regs.discardCnt = 0 ∧ State.reset.regs.violationCnt = 0)

/-- R147: the offsets that hold no register read 0 and ignore a write, without an error. -/
def Obligations.UnmappedOffsetsReadZero : Prop :=
  (∀ (s : State) (v : Word) (x : BitVec 2) (y : BitVec 4),
    exec (.rdUnmapped2c x) s = .next (s.setIo { s.io with busRdata := 0 }) ∧
    exec (.rdUnmapped30to3c y) s = .next (s.setIo { s.io with busRdata := 0 }) ∧
    exec (.wrUnmapped2c x v) s = .next (s.setIo { s.io with busRdata := 0 }) ∧
    exec (.wrUnmapped30to3c y v) s = .next (s.setIo { s.io with busRdata := 0 })) ∧
  (∀ (v : Word) (off : BitVec 6), 11 ≤ (off.extractLsb' 2 4).toNat →
    ((∃ x, decodeRead off = .rdUnmapped2c x) ∨ ∃ x, decodeRead off = .rdUnmapped30to3c x) ∧
    ((∃ x, decodeWrite off v = .wrUnmapped2c x v) ∨ ∃ x, decodeWrite off v = .wrUnmapped30to3c x v))

/-- R133: a read puts the selected register's value on `bus_rdata` and changes nothing else; over a whole `clk_sys` step
`bus_rdata` carries that value, read as it stood at the start of the step, and 0 in every step that does not read. -/
def Obligations.BusRdataCarriesTheRegister : Prop :=
  (∀ (s : State) (off : BitVec 6),
    exec (decodeRead off) s = .next (s.setIo { s.io with busRdata := s.regval (off.extractLsb' 2 4) })) ∧
  (∀ (s t : State) (k : Tick) (e : SysEdge) (rest : List Move),
    s.moves = .clock k :: rest → s.io.rst = false → k.sys = some e → step s = .next t →
    t.io.busRdata = (match e.bus with
      | some a => if a.we then 0 else s.regval (a.off.extractLsb' 2 4)
      | none => 0))

/-- R154: `irq` is the level OR of the enabled set bits. -/
def Obligations.IrqIsTheEnabledOr : Prop :=
  ∀ s : State, s.irq = true ↔
    (s.regs.txDone = true ∧ s.regs.irqEnable.getLsbD 0 = true) ∨
    (s.regs.condOvf = true ∧ s.regs.irqEnable.getLsbD 1 = true) ∨
    (s.regs.framePushed = true ∧ s.regs.irqEnable.getLsbD 2 = true)

/-! ## The classifier -/

/-- R91: EDGE_RISE after a low level, in each classifier state; its condition goes to the write side in the same step. -/
def Obligations.EdgeRiseResult : Prop :=
  ∀ (s : State) (t : Stamp), s.rx.prevLevel = false → decode (.edge (1#1 ++ t)) = .ok (.edgeRise t) ∧
    (s.rx.det = .waitBitStart → exec (.edgeRise t) s =
      .next ((s.setRx { s.rx with prevLevel := true, tRise := t, det := .waitHighToLow }).writeSide none)) ∧
    (s.rx.det = .waitHighToLow → exec (.edgeRise t) s =
      .next ((s.setRx { s.rx with prevLevel := true }).writeSide (some 0b0101#4))) ∧
    (s.rx.det = .waitLowDecision → exec (.edgeRise t) s =
      .next ((s.setRx { s.rx with prevLevel := true, tRise := t, det := .waitHighToLow }).writeSide
        (some (classify s.regs (t - s.rx.tFall)))))

/-- R92: EDGE_FALL after a high level, in each classifier state; the high phase is accepted inside its window, both bounds
included. -/
def Obligations.EdgeFallResult : Prop :=
  ∀ (s : State) (t : Stamp), s.rx.prevLevel = true → decode (.edge (0#1 ++ t)) = .ok (.edgeFall t) ∧
    (s.rx.det = .waitBitStart → exec (.edgeFall t) s =
      .next ((s.setRx { s.rx with prevLevel := false }).writeSide (some 0b0100#4))) ∧
    (s.rx.det = .waitHighToLow →
      if (s.regs.tUs.toNat : Int) - s.regs.tolMinusUs.toNat ≤ ((t - s.rx.tRise).toNat : Int) ∧
          ((t - s.rx.tRise).toNat : Int) ≤ (s.regs.tUs.toNat : Int) + s.regs.tolPlusUs.toNat then
        exec (.edgeFall t) s =
          .next ((s.setRx { s.rx with prevLevel := false, tFall := t, det := .waitLowDecision }).writeSide none)
      else
        exec (.edgeFall t) s =
          .next ((s.setRx { s.rx with prevLevel := false, det := .waitBitStart }).writeSide (some 0b0111#4))) ∧
    (s.rx.det = .waitLowDecision → exec (.edgeFall t) s =
      .next ((s.setRx { s.rx with prevLevel := false }).writeSide (some 0b0110#4)))

/-- R90: an event that reports the recorded level changes nothing of the classifier and produces no condition. -/
def Obligations.DuplicateLevelIsIgnored : Prop :=
  ∀ (s : State) (t : Stamp),
    (s.rx.prevLevel = true → exec (.edgeRise t) s = .next (s.writeSide none)) ∧
    (s.rx.prevLevel = false → exec (.edgeFall t) s = .next (s.writeSide none))

/-- R93: PAUSE_TIMEOUT produces PAUSE and leaves for WaitBitStart when the low phase has lasted E with the timeout enabled;
otherwise the step has no condition (R85): asked for by hand when it is not due, that is the model's choice (assumption 8). -/
def Obligations.PauseTimeoutResult : Prop :=
  ∀ s : State,
    if s.rx.det = .waitLowDecision ∧ s.regs.pauseTimeoutEn = true ∧
        timeoutE s.regs ≤ ((s.io.rxNow - s.rx.tFall).toNat : Int) then
      exec .pauseTimeout s = .next ((s.setRx { s.rx with det := .waitBitStart }).writeSide (some 0b0011#4))
    else exec .pauseTimeout s = .next (s.writeSide none)

/-- R87, R88: which low phase is which condition, the first window in order winning, and the windows at the reset
configuration. -/
def Obligations.LowPhasesAreClassifiedInOrder : Prop :=
  (∀ (g : Regs) (d : Stamp),
    let within (tgt : Int) : Prop := tgt - g.tolMinusUs.toNat ≤ (d.toNat : Int) ∧ (d.toNat : Int) ≤ tgt + g.tolPlusUs.toNat
    let T : Int := g.tUs.toNat
    (classify g d = codeMark ↔ within T) ∧
    (classify g d = codeSpace ↔ ¬within T ∧ within (5 * T)) ∧
    (classify g d = codeSync ↔ ¬within T ∧ ¬within (5 * T) ∧ within (10 * T)) ∧
    (classify g d = codePause ↔ ¬within T ∧ ¬within (5 * T) ∧ ¬within (10 * T) ∧
      40 * T - g.pauseGuardUs.toNat ≤ (d.toNat : Int)) ∧
    (classify g d = codeBadLowDuration ↔ ¬within T ∧ ¬within (5 * T) ∧ ¬within (10 * T) ∧
      (d.toNat : Int) < 40 * T - g.pauseGuardUs.toNat)) ∧
  (∀ d : Stamp, classify Regs.reset d =
    if 100 ≤ d.toNat ∧ d.toNat ≤ 500 then codeMark
    else if 1100 ≤ d.toNat ∧ d.toNat ≤ 1500 then codeSpace
    else if 2350 ≤ d.toNat ∧ d.toNat ≤ 2750 then codeSync
    else if 9850 ≤ d.toNat then codePause
    else codeBadLowDuration)

/-- R89: E is the least elapsed time from which every later rising edge would classify as PAUSE; it is at least 1, and 9850
at the reset configuration. -/
def Obligations.TimeoutThresholdIsLeast : Prop :=
  (∀ (g : Regs) (d : Stamp),
    (∀ d' : Stamp, d.toNat ≤ d'.toNat → classify g d' = codePause) ↔ timeoutE g ≤ (d.toNat : Int)) ∧
  (∀ g : Regs, timeoutE g = max (40 * (g.tUs.toNat : Int) - g.pauseGuardUs.toNat)
    (10 * (g.tUs.toNat : Int) + g.tolPlusUs.toNat + 1) ∧ 1 ≤ timeoutE g) ∧ timeoutE Regs.reset = 9850

/-- R93: with the timeout, the conditions and the classifier's state after the next rising edge are those that the edge
alone gives. -/
def Obligations.TimeoutThenEdgeEqualsEdge : Prop :=
  ∀ (g : Regs) (now t : Stamp) (r : Rx), r.prevLevel = false → timeoutDue g now r = true →
    timeoutE g ≤ ((sub64 t r.tFall).toNat : Int) →
    (detTimeout g now r).1 = some codePause ∧
    detEvent g true t (detTimeout g now r).2 = (none, (detEvent g true t r).2) ∧
    (detEvent g true t r).1 = some codePause

/-- R104: the condition channel's write side: a waiting marker goes first, a condition that finds no room or no push left is
dropped and counted, and a marker is owed for it. -/
def Obligations.WriteSideNeverDropsSilently : Prop :=
  ∀ (s : State) (c : Option Code),
    let full := s.cc.wcnt = s.cc.rsync.getLastD 0 + s.params.condDepth
    let bump : Half := if s.rx.dropCnt = 0xFFFF then 0xFFFF else s.rx.dropCnt + 1
    let said := s.setIo { s.io with emitted := c }
    let push (v : Code) : Chan 4 := { s.cc with buf := s.cc.buf ++ [v], wcnt := s.cc.wcnt + 1 }
    if s.rx.enSync.getLastD false = false then s.writeSide c = said
    else if s.rx.ovfPending = true ∧ ¬full then
      s.writeSide c = (said.setCc (push 0b1001#4)).setRx
        (if c.isSome then { s.rx with dropCnt := bump, ovfPending := true } else { s.rx with ovfPending := false })
    else
      match c with
      | some v =>
        if full then s.writeSide c = said.setRx { s.rx with dropCnt := bump, ovfPending := true }
        else s.writeSide c = said.setCc (push v)
      | none => s.writeSide c = said

/-- R95: from a state whose level fits its classifier state, an accepted edge records its level, so that the next accepted edge
has the other one; it gives such a state again and never BAD_EDGE_AFTER_HIGH or BAD_EDGE_AFTER_LOW; BAD_EDGE_AFTER_START
comes only from a fall in WaitBitStart. -/
def Obligations.AcceptedEdgesAlternate : Prop :=
  ∀ (g : Regs) (lvl : Bool) (t : Stamp) (r : Rx), r.levelSafe = true → lvl ≠ r.prevLevel →
    (detEvent g lvl t r).2.prevLevel = lvl ∧
    (detEvent g lvl t r).2.levelSafe = true ∧
    (detEvent g lvl t r).1 ≠ some codeBadEdgeAfterHigh ∧
    (detEvent g lvl t r).1 ≠ some codeBadEdgeAfterLow ∧
    ((detEvent g lvl t r).1 = some codeBadEdgeAfterStart → lvl = false ∧ r.det = .waitBitStart)

/-- R83, R84, R85: the receive side in one `clk_rx` step: disabled it follows the line; a change of the synchronised level is
one edge event at `rx_now_us`, which goes before the timeout; else PAUSE_TIMEOUT, which is R85's last case, no condition, when
it is not due: that PAUSE_TIMEOUT then says so is the model's choice (assumption 8). The first clause says that a step at an edge
of `clk_rx` is this on the latched inputs, with the synchronisers and the fairness record after it. -/
def Obligations.ReceiveStepTakesOneEvent : Prop :=
  (∀ (s : State) (e : RxEdge) (rest : List Move), s.moves = .clock (rxTick e) :: rest → s.io.rst = false →
    let s0 := (s.setMoves rest).setIo { s.io with rxNow := e.now, emitted := none }
    step s = andThen (rxCycle s0) fun r => .next (s0.settle (s0.shiftRx r e) true false false)) ∧
  ∀ s : State,
    (s.rx.enSync.getLastD false = false → rxCycle s = .next ((s.setRx { s.rx with
      det := .waitBitStart, prevLevel := s.rx.sync.getLastD false, ovfPending := false }).setIo
        { s.io with emitted := none })) ∧
    (s.rx.enSync.getLastD false = true → s.rx.sync.getLastD false = true → s.rx.prevLevel = false →
      rxCycle s = exec (.edgeRise s.io.rxNow) s) ∧
    (s.rx.enSync.getLastD false = true → s.rx.sync.getLastD false = false → s.rx.prevLevel = true →
      rxCycle s = exec (.edgeFall s.io.rxNow) s) ∧
    (s.rx.enSync.getLastD false = true → s.rx.sync.getLastD false = s.rx.prevLevel →
      rxCycle s = exec .pauseTimeout s)

/-! ## The decoder -/

/-- R115: SYNC restarts the frame from every state; outside WaitSync it is counted as a violation. -/
def Obligations.SyncRestartsTheFrame : Prop :=
  ∀ s : State,
    exec .condSync s = .next (if s.dec.state = .waitSync then s.setDec { state := .waitBitStart, acc := 0, cnt := 0 }
      else (s.setDec { state := .waitBitStart, acc := 0, cnt := 0 }).setRegs { s.regs with
        violationCnt := if s.regs.violationCnt = 0xFFFF then 0xFFFF else s.regs.violationCnt + 1 }) ∧
    decode (.cond 0b0010#4) = .ok .condSync

/-- R116, R111, R113: MARK in each decoder state; in WaitMark it appends logical bit 0 at the bit count, which saturates at
63, and a bit past the 32nd is not stored. -/
def Obligations.MarkResult : Prop :=
  ∀ s : State,
    (s.dec.state = .waitSync → exec .condMark s = .next s) ∧
    (s.dec.state = .waitBitStart → exec .condMark s = .next (s.setDec { s.dec with state := .waitSpace })) ∧
    (s.dec.state = .waitMark → ∃ d : Dec, exec .condMark s = .next (s.setDec d) ∧ d.state = .waitBitStart ∧
      d.cnt.toNat = min (s.dec.cnt.toNat + 1) 63 ∧
      ∀ i, i < 32 → d.acc.getLsbD i = if i = s.dec.cnt.toNat then false else s.dec.acc.getLsbD i) ∧
    (s.dec.state = .waitSpace → exec .condMark s = .next
      ((s.setDec { state := .waitSync, acc := 0, cnt := 0 }).setRegs { s.regs with
        violationCnt := if s.regs.violationCnt = 0xFFFF then 0xFFFF else s.regs.violationCnt + 1 })) ∧
    decode (.cond 0b0000#4) = .ok .condMark

/-- R117, R111, R113: SPACE in each decoder state; in WaitSpace it appends logical bit 1. -/
def Obligations.SpaceResult : Prop :=
  ∀ s : State,
    (s.dec.state = .waitSync → exec .condSpace s = .next s) ∧
    (s.dec.state = .waitBitStart → exec .condSpace s = .next (s.setDec { s.dec with state := .waitMark })) ∧
    (s.dec.state = .waitSpace → ∃ d : Dec, exec .condSpace s = .next (s.setDec d) ∧ d.state = .waitBitStart ∧
      d.cnt.toNat = min (s.dec.cnt.toNat + 1) 63 ∧
      ∀ i, i < 32 → d.acc.getLsbD i = if i = s.dec.cnt.toNat then true else s.dec.acc.getLsbD i) ∧
    (s.dec.state = .waitMark → exec .condSpace s = .next
      ((s.setDec { state := .waitSync, acc := 0, cnt := 0 }).setRegs { s.regs with
        violationCnt := if s.regs.violationCnt = 0xFFFF then 0xFFFF else s.regs.violationCnt + 1 })) ∧
    decode (.cond 0b0001#4) = .ok .condSpace

/-- R118, R112, R120: PAUSE in each decoder state; with exactly 32 bits it pushes the frame word P(dec_acc) and sets
FRAME_PUSHED, with any other count it counts a discard. Without room for the frame R118 never runs (R120); that the operation
asked for by hand then changes nothing is the model's choice (assumption 8). -/
def Obligations.PauseResult : Prop :=
  ∀ s : State,
    (s.dec.state = .waitSync → exec .condPause s = .next s) ∧
    (s.dec.state = .waitBitStart → s.dec.cnt = 32#6 → s.fc.wcnt ≠ s.fc.rsync.getLastD 0 + s.params.frameDepth →
      exec .condPause s = .next (((s.setDec { state := .waitSync, acc := 0, cnt := 0 }).setFc
        { s.fc with buf := s.fc.buf ++ [permP s.dec.acc], wcnt := s.fc.wcnt + 1 }).setRegs
          { s.regs with framePushed := true })) ∧
    (s.dec.state = .waitBitStart → s.dec.cnt = 32#6 → s.fc.wcnt = s.fc.rsync.getLastD 0 + s.params.frameDepth →
      exec .condPause s = .next s) ∧
    (s.dec.state = .waitBitStart → s.dec.cnt ≠ 32#6 → exec .condPause s = .next
      ((s.setDec { state := .waitSync, acc := 0, cnt := 0 }).setRegs { s.regs with
        discardCnt := if s.regs.discardCnt = 0xFFFF then 0xFFFF else s.regs.discardCnt + 1 })) ∧
    ((s.dec.state = .waitSpace ∨ s.dec.state = .waitMark) → exec .condPause s = .next
      ((s.setDec { state := .waitSync, acc := 0, cnt := 0 }).setRegs { s.regs with
        violationCnt := if s.regs.violationCnt = 0xFFFF then 0xFFFF else s.regs.violationCnt + 1 })) ∧
    decode (.cond 0b0011#4) = .ok .condPause

/-- R119, R68: every other code is ignored in WaitSync and is a violation elsewhere; an OVERFLOW also sets COND_OVF in every
state (R121). -/
def Obligations.OtherCodesAreViolations : Prop :=
  ∀ (s : State) (x1 : BitVec 1) (x2 : BitVec 2),
    let out (s : State) : State := if s.dec.state = .waitSync then s
      else (s.setDec { state := .waitSync, acc := 0, cnt := 0 }).setRegs { s.regs with
        violationCnt := if s.regs.violationCnt = 0xFFFF then 0xFFFF else s.regs.violationCnt + 1 }
    exec .condBadEdgeAfterStart s = .next (out s) ∧ exec .condBadEdgeAfterHigh s = .next (out s) ∧
    exec .condBadEdgeAfterLow s = .next (out s) ∧ exec .condBadHighDuration s = .next (out s) ∧
    exec .condBadLowDuration s = .next (out s) ∧
    exec .condOverflow s = .next (out (s.setRegs { s.regs with condOvf := true })) ∧
    exec (.condReserved101x x1) s = .next (out s) ∧ exec (.condReserved11xx x2) s = .next (out s) ∧
    (∀ c : Code, 4 ≤ c.toNat → exec (decodeCond c) s =
      .next (if c.toNat = 9 then out (s.setRegs { s.regs with condOvf := true }) else out s))

/-- R120: in a `clk_sys` step, whatever clocks are tied to it and whatever the host does in it, a visible PAUSE that would emit
a frame while the decoder sees the frame channel full is not popped, and the decoder changes nothing of its own: the
registers are those that the host's access leaves, but for TX_DONE; what a tied receive side pushes stands behind the
entries, and only a tied consumer pops a frame. -/
def Obligations.DecoderStallsOnFullFrameChannel : Prop :=
  ∀ (s : State) (k : Tick) (e : SysEdge) (rest : List Move) (more : List Code),
    s.moves = .clock k :: rest → s.io.rst = false → k.sys = some e → s.regs.rxEn = true →
    s.cc.wsync.getLastD 0 ≠ s.cc.rcnt → s.cc.buf = codePause :: more →
    s.dec.state = .waitBitStart → s.dec.cnt = 32#6 →
    s.fc.wcnt = s.fc.rsync.getLastD 0 + s.params.frameDepth →
    (s.fc.wsync.getLastD 0 ≠ s.fc.rcnt → s.fc.buf ≠ []) →
    let host (r : Regs) : Prop := match e.bus with
      | none => r = s.regs
      | some a => ∃ h, exec (decodeBus (BitVec.ofBool a.we ++ a.off) a.wdata) (s.latch k) = .next h ∧ r = h.regs
    ∃ (t : State) (r : Regs) (pushed : List Code) (popped : List Word), step s = .next t ∧ t.dec = s.dec ∧
      t.cc.buf = s.cc.buf ++ pushed ∧ pushed.length ≤ 1 ∧ (k.rx = none → pushed = []) ∧ t.cc.rcnt = s.cc.rcnt ∧
      s.fc.buf = popped ++ t.fc.buf ∧ popped.length ≤ 1 ∧ (k.cons = none → popped = []) ∧ t.fc.wcnt = s.fc.wcnt ∧
      host r ∧ t.regs = { r with txDone := t.regs.txDone }

/-- R121: in a `clk_sys` step with RX_EN = 0 at its start, whatever clocks are tied to it and whatever the host does in it, the
decoder pops a visible word and drops it, counting nothing but reporting an OVERFLOW marker, and waits for a Sync with no
partial frame: the registers are those that the host's access leaves, but for TX_DONE and the report. -/
def Obligations.DisabledDecoderDrains : Prop :=
  ∀ (s : State) (k : Tick) (e : SysEdge) (rest : List Move),
    s.moves = .clock k :: rest → s.io.rst = false → k.sys = some e → s.regs.rxEn = false →
    (s.cc.wsync.getLastD 0 ≠ s.cc.rcnt → s.cc.buf ≠ []) →
    (s.fc.wsync.getLastD 0 ≠ s.fc.rcnt → s.fc.buf ≠ []) →
    let host (r : Regs) : Prop := match e.bus with
      | none => r = s.regs
      | some a => ∃ h, exec (decodeBus (BitVec.ofBool a.we ++ a.off) a.wdata) (s.latch k) = .next h ∧ r = h.regs
    ∃ (t : State) (r : Regs) (pushed : List Code) (popped : List Word), step s = .next t ∧
      t.dec = { state := .waitSync, acc := 0, cnt := 0 } ∧ pushed.length ≤ 1 ∧ (k.rx = none → pushed = []) ∧
      s.fc.buf = popped ++ t.fc.buf ∧ popped.length ≤ 1 ∧ (k.cons = none → popped = []) ∧ t.fc.wcnt = s.fc.wcnt ∧
      host r ∧
      (if s.cc.wsync.getLastD 0 = s.cc.rcnt then
        t.cc.buf = s.cc.buf ++ pushed ∧ t.cc.rcnt = s.cc.rcnt ∧ t.regs = { r with txDone := t.regs.txDone }
      else
        t.cc.buf = s.cc.buf.tail ++ pushed ∧ t.cc.rcnt = s.cc.rcnt + 1 ∧ t.regs = { r with
          txDone := t.regs.txDone
          condOvf := r.condOvf || s.cc.buf.head? == some codeOverflow })

/-- R122: whatever came before, right after a SYNC the decoder is in WaitBitStart with an empty accumulator. -/
def Obligations.SyncResynchronises : Prop :=
  ∀ (l : List Code) (d : Dec),
    (decRun (l ++ [codeSync]) d).1 = { state := .waitBitStart, acc := 0, cnt := 0 }

/-- R123, R111, R118: a Sync, any number of logical bits and a Pause give a frame exactly when the bits are 32, and the
frame's wire word holds them in order; every other number gives a discard. -/
def Obligations.FrameNeedsExactly32Bits : Prop :=
  ∀ (bs : List Bool) (d : Dec),
    (decRun (codeSync :: bs.flatMap bitConds ++ [codePause]) d).1 = { state := .waitSync, acc := 0, cnt := 0 } ∧
    (bs.length ≠ 32 →
      (decRun (codeSync :: bs.flatMap bitConds ++ [codePause]) d).2.getLast? = some .discard) ∧
    (bs.length = 32 → ∃ w : Word, (∀ i, i < 32 → w.getLsbD i = bs.getD i false) ∧
      (decRun (codeSync :: bs.flatMap bitConds ++ [codePause]) d).2.getLast? = some (.frame (permP w)))

/-- R123: every frame the decoder puts out, on any sequence of conditions from `WaitSync`, ends a Sync, exactly 32 logical bits
and a Pause with nothing between them, and holds those bits in order; it is put out only on a PAUSE in `WaitBitStart` with 32
bits; a violation drops the bits and leaves `WaitSync` but for a Sync, and only a Sync leaves `WaitSync`. -/
def Obligations.EveryFrameHoldsTheBitsBetweenSyncAndPause : Prop :=
  (∀ (l : List Code) (c : Code) (d : Dec) (f : Word), d.state = .waitSync →
    (decRun (l ++ [c]) d).2.getLast? = some (.frame f) →
    c = codePause ∧ ∃ (before : List Code) (bs : List Bool), l = before ++ codeSync :: bs.flatMap bitConds ∧
      bs.length = 32 ∧ ∀ i, i < 32 → (permP f).getLsbD i = bs.getD i false) ∧
  (∀ (c : Code) (d : Dec),
    (∀ f, (decEvent c d).2 = .frame f → c = codePause ∧ d.state = .waitBitStart ∧ d.cnt = 32#6) ∧
    ((decEvent c d).2 = .violation → (decEvent c d).1.cnt = 0 ∧ (decEvent c d).1.acc = 0 ∧
      ((decEvent c d).1.state = .waitSync ∨ c = codeSync)) ∧
    (d.state = .waitSync → c ≠ codeSync → decEvent c d = (d, .nothing)))

/-! ## The transmitter and the waveform -/

/-- R128: TX_SEGMENT: when the segment's time is up the next one starts at its scheduled time, or after segment 131 the
telegram ends and TX_DONE is set; else nothing. Every `clk_sys` step that starts with a telegram being sent makes it, at that
step's `sys_now_us`, whatever the host does in the step. -/
def Obligations.SegmentBoundaryResult : Prop :=
  (∀ (s t : State) (k : Tick) (e : SysEdge) (rest : List Move),
    s.moves = .clock k :: rest → s.io.rst = false → k.sys = some e → s.tx.busy = true → step s = .next t →
    let dur := segMul s.tx.word s.tx.seg.toNat * s.regs.tUs.toNat
    t.tx = if dur ≤ (e.now - s.tx.t0).toNat then
        (if 131 ≤ s.tx.seg.toNat then
          { s.tx with busy := false, out := false, seg := 0, t0 := s.tx.t0 + BitVec.ofNat 64 dur }
        else
          { s.tx with
            seg := s.tx.seg + 1
            t0 := s.tx.t0 + BitVec.ofNat 64 dur
            out := segLevel (s.tx.seg.toNat + 1) })
      else s.tx) ∧
  ∀ s : State,
    let dur := segMul s.tx.word s.tx.seg.toNat * s.regs.tUs.toNat
    let due := s.tx.busy = true ∧ dur ≤ (s.io.sysNow - s.tx.t0).toNat
    (¬due → exec .txSegment s = .next s) ∧
    (due → s.tx.seg.toNat < 131 → exec .txSegment s = .next (s.setTx { s.tx with
      seg := s.tx.seg + 1
      t0 := s.tx.t0 + BitVec.ofNat 64 dur
      out := segLevel (s.tx.seg.toNat + 1) })) ∧
    (due → 131 ≤ s.tx.seg.toNat → exec .txSegment s = .next ((s.setTx { s.tx with
      busy := false
      out := false
      seg := 0
      t0 := s.tx.t0 + BitVec.ofNat 64 dur }).setRegs { s.regs with txDone := true }))

/-- R126, R75: the segment table of a telegram as a function of its wire word, the offsets of its landmarks, and its length
of 308 units whatever the wire word is.

R127, R128, R130: and the steps keep to it. An accepted start puts the telegram on its schedule (`OnSchedule`: `tx_t0` is the
start plus `off(tx_seg)`, and `tx_out` the segment's level), so that the segment shown is that entry of `telegramEdges`; every
step but an assertion of `rst` keeps it there, whatever the host writes, until it ends 308 units after the start with TX_DONE;
and a `clk_sys` step at or after the current segment's start shows the next segment exactly when its `sys_now_us` has
reached that one's start. -/
def Obligations.SegmentTableOfATelegram : Prop :=
  (∀ w : Word,
    (segLevel 0 = true ∧ segMul w 0 = 1) ∧ (segLevel 1 = false ∧ segMul w 1 = 10) ∧
    (∀ i j : Nat, i < 32 → j < 2 →
      (segLevel (2 + 4 * i + 2 * j) = true ∧ segMul w (2 + 4 * i + 2 * j) = 1) ∧
      (segLevel (3 + 4 * i + 2 * j) = false ∧
        segMul w (3 + 4 * i + 2 * j) = if (w.getLsbD i = true ↔ j = 0) then 1 else 5)) ∧
    (segLevel 130 = true ∧ segMul w 130 = 1) ∧ (segLevel 131 = false ∧ segMul w 131 = 40) ∧
    segOffset w 2 = 11 ∧ segOffset w 130 = 267 ∧ segOffset w 131 = 268 ∧ segOffset w 132 = 308 ∧
    (∀ i : Nat, i < 32 → segOffset w (2 + 4 * (i + 1)) = segOffset w (2 + 4 * i) + 8)) ∧
  (∀ (s t : State) (k : Tick) (e : SysEdge) (a : BusAccess) (rest : List Move),
    s.moves = .clock k :: rest → s.io.rst = false → k.sys = some e → e.bus = some a → a.we = true →
    a.off.extractLsb' 2 4 = 1 → a.wdata.getLsbD 1 = true → s.tx.busy = false → step s = .next t →
    OnSchedule e.now t ∧ t.tx.seg = 0 ∧ t.tx.word = permP s.regs.txData ∧ t.regs.tUs = s.regs.tUs) ∧
  (∀ (s : State) (start : Stamp), OnSchedule start s →
    (telegramEdges s.tx.word s.regs.tUs.toNat start)[s.tx.seg.toNat]? = some (s.tx.out, s.tx.t0)) ∧
  (∀ (s t : State) (start : Stamp), OnSchedule start s → s.takeMove.1 ≠ .rst true → step s = .next t →
    t.tx.word = s.tx.word ∧ t.regs.tUs = s.regs.tUs ∧
    (t.tx.busy = true → OnSchedule start t) ∧
    (t.tx.busy = false → s.tx.seg.toNat = 131 ∧ t.regs.txDone = true ∧ t.tx.out = false ∧
      t.tx.t0 = start + BitVec.ofNat 64 (308 * s.regs.tUs.toNat))) ∧
  (∀ (s t : State) (start : Stamp) (k : Tick) (rest : List Move), OnSchedule start s → s.moves = .clock k :: rest →
    s.io.rst = false → step s = .next t →
    (k.sys = none → t.tx = s.tx) ∧
    (∀ e, k.sys = some e →
      s.regs.tUs.toNat * segOffset s.tx.word s.tx.seg.toNat ≤ (e.now - start).toNat →
      if (e.now - start).toNat < s.regs.tUs.toNat * segOffset s.tx.word (s.tx.seg.toNat + 1) then t.tx = s.tx
      else if s.tx.seg.toNat < 131 then t.tx.busy = true ∧ t.tx.seg.toNat = s.tx.seg.toNat + 1
      else t.tx.busy = false))

/-- R129: a safe idle transmitter drives low with segment index 0, and only an accepted start leaves the idle state: a host
write of CTRL with bit 1 set. -/
def Obligations.OnlyAStartLeavesIdle : Prop :=
  (∀ s : State, Inv s → s.tx.busy = false → s.tx.out = false ∧ s.tx.seg = 0) ∧
  (∀ s t : State, s.tx.busy = false → step s = .next t → t.tx ≠ s.tx → t.tx ≠ Tx.reset →
    t.tx.busy = true ∧ ∃ k e a, s.takeMove.1 = .clock k ∧ k.sys = some e ∧ e.bus = some a ∧ a.we = true ∧
      a.off.extractLsb' 2 4 = 1 ∧ a.wdata.getLsbD 1 = true)

/-- R131: the transmitter shares no state with the receive side: from states that agree on the transmitter, the registers
and what the environment does, one step leaves the same transmitter; and from states that agree on the receive side, the
condition channel, the registers and what the environment does, it leaves the same receive side. -/
def Obligations.TransmitterAndReceiverAreSeparate : Prop :=
  ∀ s1 s2 t1 t2 : State, s1.params = s2.params → s1.regs = s2.regs → s1.io = s2.io → s1.fair = s2.fair →
    s1.moves = s2.moves → s1.freeIdx = s2.freeIdx → step s1 = .next t1 → step s2 = .next t2 →
    (s1.tx = s2.tx → t1.tx = t2.tx) ∧ (s1.rx = s2.rx → s1.cc = s2.cc → t1.rx = t2.rx)

/-- R76, R88, R90: a clean telegram's edges give the classifier its conditions up to the Pause, in order, and the Pause
timeout, or a rising edge as late, then gives the Pause; for every wire word, start time and configuration whose upper
margin is below 4T. -/
def Obligations.CleanTelegramGivesItsConditions : Prop :=
  ∀ (g : Regs) (w : Word) (t0 : Stamp) (r : Rx), r.det = .waitBitStart → r.prevLevel = false →
    g.tolPlusUs.toNat < 4 * g.tUs.toNat →
    let q := detRun g (telegramEdges w g.tUs.toNat t0) r
    q.1 = telegramBody w ∧ q.2.det = .waitLowDecision ∧ q.2.prevLevel = false ∧
    q.2.tFall = t0 + BitVec.ofNat 64 (268 * g.tUs.toNat) ∧
    ∀ now : Stamp, g.pauseTimeoutEn = true → timeoutE g ≤ ((now - q.2.tFall).toNat : Int) →
      detTimeout g now q.2 = (some codePause, { q.2 with det := .waitBitStart }) ∧
      (detEvent g true now q.2).1 = some codePause

/-- R72, R76, R114: the round trip: the edges of the telegram sent for a frame word, classified and decoded from any decoder
state, give back exactly that frame word, once. -/
def Obligations.RoundTripGivesTheFrame : Prop :=
  ∀ (g : Regs) (f : Word) (t0 : Stamp) (r : Rx) (d : Dec), r.det = .waitBitStart → r.prevLevel = false →
    g.tolPlusUs.toNat < 4 * g.tUs.toNat →
    let q := detRun g (telegramEdges (permP f) g.tUs.toNat t0) r
    (decRun (q.1 ++ [codePause]) d).1 = { state := .waitSync, acc := 0, cnt := 0 } ∧
    (decRun (q.1 ++ [codePause]) d).2.filterMap
      (fun o => match o with
        | .frame f' => some f'
        | .nothing => none
        | .discard => none
        | .violation => none) = [f]

/-! ## The channels -/

/-- R99: CH_PUSH appends the entry and counts it, on each channel that its writer sees with room. The fault without room is
the model's choice (assumption 6). -/
def Obligations.PushAppendsAtTheTail : Prop :=
  ∀ (s : State) (c : Code) (f : Word),
    (if s.cc.wcnt = s.cc.rsync.getLastD 0 + s.params.condDepth then
      exec (.chPush (.cc c)) s = .fault (.pushWhileFull .cc)
    else exec (.chPush (.cc c)) s = .next (s.setCc { s.cc with buf := s.cc.buf ++ [c], wcnt := s.cc.wcnt + 1 })) ∧
    (if s.fc.wcnt = s.fc.rsync.getLastD 0 + s.params.frameDepth then
      exec (.chPush (.fc f)) s = .fault (.pushWhileFull .fc)
    else exec (.chPush (.fc f)) s = .next (s.setFc { s.fc with buf := s.fc.buf ++ [f], wcnt := s.fc.wcnt + 1 }))

/-- R100: CH_POP removes and shows the oldest entry of a channel that its reader sees non-empty, and does nothing on one that
its reader sees empty. -/
def Obligations.PopTakesTheHead : Prop :=
  ∀ s : State,
    (s.cc.wsync.getLastD 0 = s.cc.rcnt → exec (.chPop .cc) s = .next s) ∧
    (s.fc.wsync.getLastD 0 = s.fc.rcnt → exec (.chPop .fc) s = .next s) ∧
    (∀ c rest, s.cc.wsync.getLastD 0 ≠ s.cc.rcnt → s.cc.buf = c :: rest → exec (.chPop .cc) s = .next
      ((s.setCc { s.cc with buf := rest, rcnt := s.cc.rcnt + 1 }).setIo { s.io with condPopped := some c })) ∧
    (∀ f rest, s.fc.wsync.getLastD 0 ≠ s.fc.rcnt → s.fc.buf = f :: rest → exec (.chPop .fc) s = .next
      ((s.setFc { s.fc with buf := rest, rcnt := s.fc.rcnt + 1 }).setIo { s.io with framePopped := some f }))

/-- R108: the consumer port: `frame_valid` and `frame_data`, and FRAME_POP, which takes `frame_data` when `frame_valid` is 1
and does nothing when it is 0. -/
def Obligations.FramePopTakesFrameData : Prop :=
  ∀ s : State,
    (s.fc.wsync.getLastD 0 = s.fc.rcnt →
      s.frameValid = false ∧ s.frameData = 0 ∧ exec .framePop s = .next s) ∧
    (∀ f rest, s.fc.wsync.getLastD 0 ≠ s.fc.rcnt → s.fc.buf = f :: rest →
      s.frameValid = true ∧ s.frameData = f ∧ exec .framePop s = .next
        ((s.setFc { s.fc with buf := rest, rcnt := s.fc.rcnt + 1 }).setIo { s.io with framePopped := some f }))

/-- R102: channel safety in every state that a run from reset reaches, for every legal choice of the parameters and every
sequence of moves of the environment. -/
def Obligations.ChannelsAreSafeWhenReachable : Prop :=
  ∀ (p : Params) (ms : List Move) (n : Nat) (s : State), legalParams p = true →
    Host.Core.run Sys2Proof.core n ((State.resetWith p).setMoves ms) = .next s →
    (s.cc.rview ≤ s.cc.rcnt ∧ s.cc.rcnt ≤ s.cc.wview ∧ s.cc.wview ≤ s.cc.wcnt ∧
      s.cc.wcnt ≤ s.cc.rview + p.condDepth ∧ s.cc.buf.length = s.cc.wcnt - s.cc.rcnt) ∧
    (s.fc.rview ≤ s.fc.rcnt ∧ s.fc.rcnt ≤ s.fc.wview ∧ s.fc.wview ≤ s.fc.wcnt ∧
      s.fc.wcnt ≤ s.fc.rview + p.frameDepth ∧ s.fc.buf.length = s.fc.wcnt - s.fc.rcnt)

/-- R52, R50: a step other than reset pushes at most one entry at the tail of each channel and pops at most one at its head,
and changes no entry that waits. -/
def Obligations.ChannelsAreFirstInFirstOut : Prop :=
  ∀ s t : State, s.takeMove.1 ≠ .rst true → step s = .next t →
    (∃ pushed popped : List Code, pushed.length ≤ 1 ∧ popped.length ≤ 1 ∧ s.cc.buf ++ pushed = popped ++ t.cc.buf ∧
      t.cc.wcnt = s.cc.wcnt + pushed.length ∧ t.cc.rcnt = s.cc.rcnt + popped.length) ∧
    (∃ pushed popped : List Word, pushed.length ≤ 1 ∧ popped.length ≤ 1 ∧ s.fc.buf ++ pushed = popped ++ t.fc.buf ∧
      t.fc.wcnt = s.fc.wcnt + pushed.length ∧ t.fc.rcnt = s.fc.rcnt + popped.length)

/-! ## Clock-domain crossing -/

/-- R56, R57: in a step of its viewing domain each stage of a synchroniser takes what the stage before it held, and stage 0
takes a value that the draw allows: for a bit the source's value or its own, for a count a value from its own to the source's.
Every such draw is admitted, but where fairness forces the source's value: where the fairness record (log entry 5) says that the
source has not moved since the start of the domain's step before, and it does not move in this step either. The last clause is
the record itself, over every move but an assertion of `rst`: a source that moves in a step leaves its field false, one that
does not leaves it true if its domain made a step, and as it was if not. -/
def Obligations.SynchronisersSampleWithinTheDraw : Prop :=
  (∀ (s t : State) (k : Tick) (rest : List Move),
    s.moves = .clock k :: rest → s.io.rst = false → step s = .next t →
    let bit (src : Bool) (old new : List Bool) : Prop :=
      ∃ b, (b = src ∨ b = old.headD false) ∧ new = (b :: old).dropLast
    let count (src : Nat) (old new : List Nat) : Prop :=
      ∃ n, (old.headD 0 ≤ src → old.headD 0 ≤ n ∧ n ≤ src) ∧ new = (n :: old).dropLast
    (if k.rx.isSome then bit s.io.rxIn s.rx.sync t.rx.sync ∧ bit s.regs.rxEn s.rx.enSync t.rx.enSync ∧
        count s.cc.rcnt s.cc.rsync t.cc.rsync
      else t.rx.sync = s.rx.sync ∧ t.rx.enSync = s.rx.enSync ∧ t.cc.rsync = s.cc.rsync) ∧
    (if k.sys.isSome then bit s.rxEnView s.views.rxActive t.views.rxActive ∧
        count s.cc.wcnt s.cc.wsync t.cc.wsync ∧ count s.fc.rcnt s.fc.rsync t.fc.rsync ∧
        count s.rx.dropCnt.toNat (s.views.dropSync.map BitVec.toNat) (t.views.dropSync.map BitVec.toNat)
      else t.views = s.views ∧ t.cc.wsync = s.cc.wsync ∧ t.fc.rsync = s.fc.rsync) ∧
    (if k.cons.isSome then count s.fc.wcnt s.fc.wsync t.fc.wsync else t.fc.wsync = s.fc.wsync) ∧
    let bitDraw (settled src src' keep : Bool) (old new : List Bool) : Prop :=
      new = ((if settled = true ∧ src' = src then src else if keep then old.headD false else src) :: old).dropLast
    let countDraw (settled : Bool) (src src' draw : Nat) (old new : List Nat) : Prop :=
      if settled = true ∧ src' = src then new = (src :: old).dropLast
      else old.headD 0 ≤ draw → draw ≤ src → new = (draw :: old).dropLast
    (∀ e, k.rx = some e →
      bitDraw s.fair.rxIn s.io.rxIn t.io.rxIn e.keepRxIn s.rx.sync t.rx.sync ∧
      bitDraw s.fair.rxEn s.regs.rxEn t.regs.rxEn e.keepRxEn s.rx.enSync t.rx.enSync ∧
      countDraw s.fair.ccRead s.cc.rcnt t.cc.rcnt e.drawCcRead s.cc.rsync t.cc.rsync) ∧
    (∀ e, k.sys = some e →
      bitDraw s.fair.active s.rxEnView t.rxEnView e.keepActive s.views.rxActive t.views.rxActive ∧
      countDraw s.fair.ccWrite s.cc.wcnt t.cc.wcnt e.drawCcWrite s.cc.wsync t.cc.wsync ∧
      countDraw s.fair.fcRead s.fc.rcnt t.fc.rcnt e.drawFcRead s.fc.rsync t.fc.rsync ∧
      countDraw s.fair.drop s.rx.dropCnt.toNat t.rx.dropCnt.toNat e.drawDrop (s.views.dropSync.map BitVec.toNat)
        (t.views.dropSync.map BitVec.toNat)) ∧
    (∀ e, k.cons = some e → countDraw s.fair.fcWrite s.fc.wcnt t.fc.wcnt e.drawFcWrite s.fc.wsync t.fc.wsync)) ∧
  (∀ s t : State, s.takeMove.1 ≠ .rst true → step s = .next t →
    let stepped (edge : Move → Bool) : Prop := s.io.rst = false ∧ edge s.takeMove.1 = true
    let record (edge : Move → Bool) (before after : Bool) (unchanged : Prop) : Prop :=
      after = true ↔ unchanged ∧ (stepped edge ∨ before = true)
    record Move.rxEdge s.fair.rxIn t.fair.rxIn (t.io.rxIn = s.io.rxIn) ∧
    record Move.rxEdge s.fair.rxEn t.fair.rxEn (t.regs.rxEn = s.regs.rxEn) ∧
    record Move.rxEdge s.fair.ccRead t.fair.ccRead (t.cc.rcnt = s.cc.rcnt) ∧
    record Move.sysEdge s.fair.active t.fair.active (t.rxEnView = s.rxEnView) ∧
    record Move.sysEdge s.fair.ccWrite t.fair.ccWrite (t.cc.wcnt = s.cc.wcnt) ∧
    record Move.sysEdge s.fair.fcRead t.fair.fcRead (t.fc.rcnt = s.fc.rcnt) ∧
    record Move.sysEdge s.fair.drop t.fair.drop (t.rx.dropCnt = s.rx.dropCnt) ∧
    record Move.consEdge s.fair.fcWrite t.fair.fcWrite (t.fc.wcnt = s.fc.wcnt))

/-- R57: while a source stays unchanged, stage i of its synchroniser holds it from the end of the (i+2)-th step of the viewing
domain on, whatever lies between those steps (edges of other domains, moves of the line) and whatever the draws are: stage 0 after
two consecutive steps, and the view after SYNC_STAGES + 1, or SYNC_STAGES + 2 for `rx_active_s`. `StaysDuring` is that the
source has its first value at every point of the run. -/
def Obligations.UnchangedSourceIsHeld : Prop :=
  ∀ (s t : State) (ms rest : List Move), Inv s → s.io.rst = false → Move.rst true ∉ ms → s.moves = ms ++ rest →
    Host.Core.run Sys2Proof.core ms.length s = .next t →
    let rxSteps := ms.countP Move.rxEdge
    let sysSteps := ms.countP Move.sysEdge
    let consSteps := ms.countP Move.consEdge
    let N := s.params.syncStages
    (StaysDuring s ms.length (fun u => u.io.rxIn) →
      (∀ i, i < N → i + 2 ≤ rxSteps → t.rx.sync[i]? = some t.io.rxIn) ∧
      (N + 1 ≤ rxSteps → t.sLvl = t.io.rxIn)) ∧
    (StaysDuring s ms.length (fun u => u.regs.rxEn) →
      (∀ i, i < N → i + 2 ≤ rxSteps → t.rx.enSync[i]? = some t.regs.rxEn) ∧
      (N + 1 ≤ rxSteps → t.rxEnView = t.regs.rxEn)) ∧
    (StaysDuring s ms.length (fun u => u.cc.rcnt) →
      (∀ i, i < N → i + 2 ≤ rxSteps → t.cc.rsync[i]? = some t.cc.rcnt) ∧
      (N + 1 ≤ rxSteps → t.cc.rview = t.cc.rcnt)) ∧
    (StaysDuring s ms.length State.rxEnView →
      (∀ i, i < N + 1 → i + 2 ≤ sysSteps → t.views.rxActive[i]? = some t.rxEnView) ∧
      (N + 2 ≤ sysSteps → t.activeView = t.rxEnView)) ∧
    (StaysDuring s ms.length (fun u => u.cc.wcnt) →
      (∀ i, i < N → i + 2 ≤ sysSteps → t.cc.wsync[i]? = some t.cc.wcnt) ∧
      (N + 1 ≤ sysSteps → t.cc.wview = t.cc.wcnt)) ∧
    (StaysDuring s ms.length (fun u => u.fc.rcnt) →
      (∀ i, i < N → i + 2 ≤ sysSteps → t.fc.rsync[i]? = some t.fc.rcnt) ∧
      (N + 1 ≤ sysSteps → t.fc.rview = t.fc.rcnt)) ∧
    (StaysDuring s ms.length (fun u => u.rx.dropCnt) →
      (∀ i, i < N → i + 2 ≤ sysSteps → t.views.dropSync[i]? = some t.rx.dropCnt) ∧
      (N + 1 ≤ sysSteps → t.dropView = t.rx.dropCnt)) ∧
    (StaysDuring s ms.length (fun u => u.fc.wcnt) →
      (∀ i, i < N → i + 2 ≤ consSteps → t.fc.wsync[i]? = some t.fc.wcnt) ∧
      (N + 1 ≤ consSteps → t.fc.wview = t.fc.wcnt))

/-- R103, R57: if the writer stops pushing, the reader sees every pushed entry after SYNC_STAGES + 1 steps of its own, and if
the reader stops popping, the writer sees all the room after SYNC_STAGES + 1 steps of its own; whatever else happens in
between, short of a reset, and whatever the draws are. -/
def Obligations.ViewsCatchUpWithAnUnchangingCount : Prop :=
  ∀ (s t : State) (ms : List Move), Inv s → s.io.rst = false → Move.rst true ∉ ms →
    Host.Core.run Sys2Proof.core ms.length (s.setMoves ms) = .next t →
    let rxSteps := ms.countP fun m => match m with
      | .clock k => k.rx.isSome
      | .line _ => false
      | .rst _ => false
    let sysSteps := ms.countP fun m => match m with
      | .clock k => k.sys.isSome
      | .line _ => false
      | .rst _ => false
    let consSteps := ms.countP fun m => match m with
      | .clock k => k.cons.isSome
      | .line _ => false
      | .rst _ => false
    (s.params.syncStages + 1 ≤ sysSteps → s.cc.wcnt = t.cc.wcnt → t.cc.wview = t.cc.wcnt) ∧
    (s.params.syncStages + 1 ≤ rxSteps → s.cc.rcnt = t.cc.rcnt → t.cc.rview = t.cc.rcnt) ∧
    (s.params.syncStages + 1 ≤ consSteps → s.fc.wcnt = t.fc.wcnt → t.fc.wview = t.fc.wcnt) ∧
    (s.params.syncStages + 1 ≤ sysSteps → s.fc.rcnt = t.fc.rcnt → t.fc.rview = t.fc.rcnt)

/-! ## Steps -/

/-- R17, R85, R121, R133, R108: a step runs the operation that the word on a port decodes to. Around `exec` a step latches
the inputs, runs the other operations of the same domain, shifts the synchronisers and keeps the fairness record. -/
def Obligations.StepRunsTheDecodedOperation : Prop :=
  (∀ (s : State) (e : SysEdge) (a : BusAccess) (rest : List Move) (i : Instr),
    s.moves = .clock (sysTick e) :: rest → s.io.rst = false → e.bus = some a →
    decode (.bus (BitVec.ofBool a.we ++ a.off) a.wdata) = .ok i →
    let s0 := (s.setMoves rest).latch (sysTick e)
    step s = andThen (exec i s0) fun u => andThen (decoderCycle s0.decAction u) fun v =>
      andThen (txCycle s0.tx.busy v) fun r =>
        .next (s0.settle (s0.shiftAll r (sysTick e)) false true false)) ∧
  (∀ (s : State) (e : SysEdge) (c : Code) (more : List Code) (rest : List Move) (i : Instr),
    s.moves = .clock (sysTick e) :: rest → s.io.rst = false → e.bus = none → s.regs.rxEn = true →
    s.cc.wsync.getLastD 0 ≠ s.cc.rcnt → s.cc.buf = c :: more →
    (s.wouldEmit c && s.fcFull) = false → decode (.cond c) = .ok i →
    let s0 := (s.setMoves rest).latch (sysTick e)
    step s = andThen (exec i ((s0.setCc { s0.cc with buf := more, rcnt := s0.cc.rcnt + 1 }).setIo
        { s0.io with condPopped := some c })) fun v => andThen (txCycle s0.tx.busy v) fun r =>
          .next (s0.settle (s0.shiftAll r (sysTick e)) false true false)) ∧
  (∀ (s : State) (e : RxEdge) (rest : List Move) (i : Instr),
    s.moves = .clock (rxTick e) :: rest → s.io.rst = false → s.rxEnView = true → s.sLvl ≠ s.rx.prevLevel →
    decode (.edge (BitVec.ofBool s.sLvl ++ e.now)) = .ok i →
    let s0 := (s.setMoves rest).latch (rxTick e)
    step s = andThen (exec i s0) fun r => .next (s0.settle (s0.shiftAll r (rxTick e)) true false false)) ∧
  (∀ (s : State) (e : ConsEdge) (rest : List Move) (i : Instr),
    s.moves = .clock (consTick e) :: rest → s.io.rst = false → decode (.cons e.ready) = .ok i →
    let s0 := (s.setMoves rest).latch (consTick e)
    step s = andThen (exec i s0) fun r => .next (s0.settle (s0.shiftAll r (consTick e)) false false true))

/-- R166: when `rst` goes to 1 every state element takes its reset value in the same move, whatever the state was, and the
outputs are 0; while it is 1 a clock edge changes nothing. R6, R21: a move of the line sets `rx_in`, the release of `rst` sets `rst`
to 0, and neither changes any other port or element. That `rst` rises and falls as moves, that the inputs keep what drives them,
and the fairness record's reset, are the model's choices (assumptions 13, 3 and 5). -/
def Obligations.RstResetsEveryElement : Prop :=
  (∀ (s : State) (rest : List Move), s.moves = .rst true :: rest →
    ∃ t, step s = .next t ∧ t.rx = Rx.reset s.params ∧ t.cc = Chan.reset 4 s.params ∧ t.fc = Chan.reset 32 s.params ∧
      t.regs = Regs.reset ∧ t.views = Views.reset s.params ∧ t.dec = Dec.reset ∧ t.tx = Tx.reset ∧
      t.io = { s.io with rst := true, busRdata := 0, emitted := none, condPopped := none, framePopped := none } ∧
      t.fair = Fair.reset ∧ t.params = s.params ∧ t.moves = rest ∧ t.freeIdx = s.freeIdx) ∧
  (∀ (s : State) (k : Tick) (rest : List Move), s.moves = .clock k :: rest → s.io.rst = true →
    step s = .next (s.setMoves rest)) ∧
  (∀ (s : State) (m : Move) (rest : List Move), s.moves = m :: rest → m = .rst false ∨ (∃ l, m = .line l) →
    ∃ t, step s = .next t ∧ t.rx = s.rx ∧ t.cc = s.cc ∧ t.fc = s.fc ∧ t.regs = s.regs ∧ t.views = s.views ∧
      t.dec = s.dec ∧ t.tx = s.tx ∧ t.params = s.params ∧ t.moves = rest ∧ t.freeIdx = s.freeIdx ∧
      (m = .rst false → t.io = { s.io with rst := false }) ∧
      (∀ l, m = .line l → t.io = { s.io with rxIn := l }))

/-- R167: the state, the outputs and the registers right after reset, for every legal choice of the parameters. -/
def Obligations.ResetValues : Prop :=
  State.reset = State.resetWith defaultParams ∧ ∀ p : Params, legalParams p = true →
  let s := State.resetWith p
  let zeros (n : Nat) : List Nat := List.replicate n 0
  (s.rx.sync = List.replicate p.syncStages false ∧ s.rx.enSync = List.replicate p.syncStages false ∧
    s.rx.prevLevel = false ∧ s.rx.det = .waitBitStart ∧ s.rx.tRise = 0 ∧ s.rx.tFall = 0 ∧ s.rx.ovfPending = false ∧
    s.rx.dropCnt = 0) ∧
  (s.cc.buf = [] ∧ s.cc.wcnt = 0 ∧ s.cc.rcnt = 0 ∧ s.fc.buf = [] ∧ s.fc.wcnt = 0 ∧ s.fc.rcnt = 0 ∧
    s.cc.wsync = zeros p.syncStages ∧ s.cc.rsync = zeros p.syncStages ∧ s.fc.wsync = zeros p.syncStages ∧
    s.fc.rsync = zeros p.syncStages) ∧
  (s.views.rxActive = List.replicate (p.syncStages + 1) false ∧ s.views.dropSync = List.replicate p.syncStages 0) ∧
  (s.dec.state = .waitSync ∧ s.dec.acc = 0 ∧ s.dec.cnt = 0) ∧
  (s.tx.busy = false ∧ s.tx.out = false ∧ s.tx.seg = 0 ∧ s.tx.t0 = 0 ∧ s.tx.word = 0) ∧
  (s.irq = false ∧ s.frameValid = false ∧ s.frameData = 0 ∧ s.io.busRdata = 0) ∧
  (s.regval 0 = 0x4E580001#32 ∧ s.regval 1 = 0 ∧ s.regval 2 = 0x10#32 ∧ s.regval 3 = 0 ∧ s.regval 4 = 0 ∧
    s.regval 5 = 0x009600FA#32 ∧ s.regval 6 = 0x00FA0096#32 ∧ s.regval 7 = 1 ∧ s.regval 8 = 0 ∧ s.regval 9 = 0 ∧
    s.regval 10 = 0)

/-! ## Invariants -/

/-- The invariant holds right after reset, for every legal choice of the parameters. -/
def Obligations.InvariantHoldsAtReset : Prop :=
  Inv State.reset ∧ ∀ p : Params, legalParams p = true → Inv (State.resetWith p)

/-- R102, R95, R68, R110, R116, R129: every step keeps the invariant, from every state that has it, whatever the environment
does. -/
def Obligations.StepKeepsTheInvariant : Prop :=
  ∀ s t : State, Inv s → step s = .next t → Inv t

/-- R151: nothing ever stops a clock domain: from every state with the invariant, every step gives a next state. -/
def Obligations.NothingStopsTheBlock : Prop :=
  ∀ s : State, Inv s → ∃ t, step s = .next t

/-- R59: while RX_EN stays 0, a drain that has begun goes on in order; it begins when RX_EN is 0 with the enable up in every
stage of both its synchronisers. -/
def Obligations.DrainGoesOn : Prop :=
  (∀ s t : State, Inv s → Draining s → step s = .next t → t.regs.rxEn = false → Draining t) ∧
  (∀ s : State, s.regs.rxEn = false → s.rx.enSync.all (fun b => b) = true →
    s.views.rxActive.all (fun b => b) = true → Draining s)

/-- R59: in a drain, once RX_ACTIVE reads 0 the receive side is off and every condition it pushed has been popped. -/
def Obligations.DrainIsCompleteWhenRxActiveFalls : Prop :=
  ∀ s : State, Inv s → Draining s → (s.regval 2).getLsbD 0 = false →
    s.rxEnView = false ∧ s.cc.wview = s.cc.wcnt ∧ s.cc.wcnt = s.cc.rcnt ∧ s.cc.buf = []
end

