-- ==== Sys2Proof/Laws/State.lean ====
section
/-! SUPPORT. What each named update of the state leaves and writes: one lemma for each field, true by rfl. -/

namespace Sys2Proof.Machine

/-! ## setRx -/

@[simp] theorem setRx_params (s : State) (v : Rx) : (s.setRx v).params = s.params := rfl
@[simp] theorem setRx_rx (s : State) (v : Rx) : (s.setRx v).rx = v := rfl
@[simp] theorem setRx_cc (s : State) (v : Rx) : (s.setRx v).cc = s.cc := rfl
@[simp] theorem setRx_fc (s : State) (v : Rx) : (s.setRx v).fc = s.fc := rfl
@[simp] theorem setRx_regs (s : State) (v : Rx) : (s.setRx v).regs = s.regs := rfl
@[simp] theorem setRx_views (s : State) (v : Rx) : (s.setRx v).views = s.views := rfl
@[simp] theorem setRx_dec (s : State) (v : Rx) : (s.setRx v).dec = s.dec := rfl
@[simp] theorem setRx_tx (s : State) (v : Rx) : (s.setRx v).tx = s.tx := rfl
@[simp] theorem setRx_io (s : State) (v : Rx) : (s.setRx v).io = s.io := rfl
@[simp] theorem setRx_fair (s : State) (v : Rx) : (s.setRx v).fair = s.fair := rfl
@[simp] theorem setRx_moves (s : State) (v : Rx) : (s.setRx v).moves = s.moves := rfl
@[simp] theorem setRx_freeIdx (s : State) (v : Rx) : (s.setRx v).freeIdx = s.freeIdx := rfl
@[simp] theorem setRx_setRx (s : State) (v w : Rx) : (s.setRx v).setRx w = s.setRx w := rfl

/-! ## setCc -/

@[simp] theorem setCc_params (s : State) (v : Chan 4) : (s.setCc v).params = s.params := rfl
@[simp] theorem setCc_rx (s : State) (v : Chan 4) : (s.setCc v).rx = s.rx := rfl
@[simp] theorem setCc_cc (s : State) (v : Chan 4) : (s.setCc v).cc = v := rfl
@[simp] theorem setCc_fc (s : State) (v : Chan 4) : (s.setCc v).fc = s.fc := rfl
@[simp] theorem setCc_regs (s : State) (v : Chan 4) : (s.setCc v).regs = s.regs := rfl
@[simp] theorem setCc_views (s : State) (v : Chan 4) : (s.setCc v).views = s.views := rfl
@[simp] theorem setCc_dec (s : State) (v : Chan 4) : (s.setCc v).dec = s.dec := rfl
@[simp] theorem setCc_tx (s : State) (v : Chan 4) : (s.setCc v).tx = s.tx := rfl
@[simp] theorem setCc_io (s : State) (v : Chan 4) : (s.setCc v).io = s.io := rfl
@[simp] theorem setCc_fair (s : State) (v : Chan 4) : (s.setCc v).fair = s.fair := rfl
@[simp] theorem setCc_moves (s : State) (v : Chan 4) : (s.setCc v).moves = s.moves := rfl
@[simp] theorem setCc_freeIdx (s : State) (v : Chan 4) : (s.setCc v).freeIdx = s.freeIdx := rfl
@[simp] theorem setCc_setCc (s : State) (v w : Chan 4) : (s.setCc v).setCc w = s.setCc w := rfl

/-! ## setFc -/

@[simp] theorem setFc_params (s : State) (v : Chan 32) : (s.setFc v).params = s.params := rfl
@[simp] theorem setFc_rx (s : State) (v : Chan 32) : (s.setFc v).rx = s.rx := rfl
@[simp] theorem setFc_cc (s : State) (v : Chan 32) : (s.setFc v).cc = s.cc := rfl
@[simp] theorem setFc_fc (s : State) (v : Chan 32) : (s.setFc v).fc = v := rfl
@[simp] theorem setFc_regs (s : State) (v : Chan 32) : (s.setFc v).regs = s.regs := rfl
@[simp] theorem setFc_views (s : State) (v : Chan 32) : (s.setFc v).views = s.views := rfl
@[simp] theorem setFc_dec (s : State) (v : Chan 32) : (s.setFc v).dec = s.dec := rfl
@[simp] theorem setFc_tx (s : State) (v : Chan 32) : (s.setFc v).tx = s.tx := rfl
@[simp] theorem setFc_io (s : State) (v : Chan 32) : (s.setFc v).io = s.io := rfl
@[simp] theorem setFc_fair (s : State) (v : Chan 32) : (s.setFc v).fair = s.fair := rfl
@[simp] theorem setFc_moves (s : State) (v : Chan 32) : (s.setFc v).moves = s.moves := rfl
@[simp] theorem setFc_freeIdx (s : State) (v : Chan 32) : (s.setFc v).freeIdx = s.freeIdx := rfl
@[simp] theorem setFc_setFc (s : State) (v w : Chan 32) : (s.setFc v).setFc w = s.setFc w := rfl

/-! ## setRegs -/

@[simp] theorem setRegs_params (s : State) (v : Regs) : (s.setRegs v).params = s.params := rfl
@[simp] theorem setRegs_rx (s : State) (v : Regs) : (s.setRegs v).rx = s.rx := rfl
@[simp] theorem setRegs_cc (s : State) (v : Regs) : (s.setRegs v).cc = s.cc := rfl
@[simp] theorem setRegs_fc (s : State) (v : Regs) : (s.setRegs v).fc = s.fc := rfl
@[simp] theorem setRegs_regs (s : State) (v : Regs) : (s.setRegs v).regs = v := rfl
@[simp] theorem setRegs_views (s : State) (v : Regs) : (s.setRegs v).views = s.views := rfl
@[simp] theorem setRegs_dec (s : State) (v : Regs) : (s.setRegs v).dec = s.dec := rfl
@[simp] theorem setRegs_tx (s : State) (v : Regs) : (s.setRegs v).tx = s.tx := rfl
@[simp] theorem setRegs_io (s : State) (v : Regs) : (s.setRegs v).io = s.io := rfl
@[simp] theorem setRegs_fair (s : State) (v : Regs) : (s.setRegs v).fair = s.fair := rfl
@[simp] theorem setRegs_moves (s : State) (v : Regs) : (s.setRegs v).moves = s.moves := rfl
@[simp] theorem setRegs_freeIdx (s : State) (v : Regs) : (s.setRegs v).freeIdx = s.freeIdx := rfl
@[simp] theorem setRegs_setRegs (s : State) (v w : Regs) : (s.setRegs v).setRegs w = s.setRegs w := rfl

/-! ## setViews -/

@[simp] theorem setViews_params (s : State) (v : Views) : (s.setViews v).params = s.params := rfl
@[simp] theorem setViews_rx (s : State) (v : Views) : (s.setViews v).rx = s.rx := rfl
@[simp] theorem setViews_cc (s : State) (v : Views) : (s.setViews v).cc = s.cc := rfl
@[simp] theorem setViews_fc (s : State) (v : Views) : (s.setViews v).fc = s.fc := rfl
@[simp] theorem setViews_regs (s : State) (v : Views) : (s.setViews v).regs = s.regs := rfl
@[simp] theorem setViews_views (s : State) (v : Views) : (s.setViews v).views = v := rfl
@[simp] theorem setViews_dec (s : State) (v : Views) : (s.setViews v).dec = s.dec := rfl
@[simp] theorem setViews_tx (s : State) (v : Views) : (s.setViews v).tx = s.tx := rfl
@[simp] theorem setViews_io (s : State) (v : Views) : (s.setViews v).io = s.io := rfl
@[simp] theorem setViews_fair (s : State) (v : Views) : (s.setViews v).fair = s.fair := rfl
@[simp] theorem setViews_moves (s : State) (v : Views) : (s.setViews v).moves = s.moves := rfl
@[simp] theorem setViews_freeIdx (s : State) (v : Views) : (s.setViews v).freeIdx = s.freeIdx := rfl
@[simp] theorem setViews_setViews (s : State) (v w : Views) : (s.setViews v).setViews w = s.setViews w := rfl

/-! ## setDec -/

@[simp] theorem setDec_params (s : State) (v : Dec) : (s.setDec v).params = s.params := rfl
@[simp] theorem setDec_rx (s : State) (v : Dec) : (s.setDec v).rx = s.rx := rfl
@[simp] theorem setDec_cc (s : State) (v : Dec) : (s.setDec v).cc = s.cc := rfl
@[simp] theorem setDec_fc (s : State) (v : Dec) : (s.setDec v).fc = s.fc := rfl
@[simp] theorem setDec_regs (s : State) (v : Dec) : (s.setDec v).regs = s.regs := rfl
@[simp] theorem setDec_views (s : State) (v : Dec) : (s.setDec v).views = s.views := rfl
@[simp] theorem setDec_dec (s : State) (v : Dec) : (s.setDec v).dec = v := rfl
@[simp] theorem setDec_tx (s : State) (v : Dec) : (s.setDec v).tx = s.tx := rfl
@[simp] theorem setDec_io (s : State) (v : Dec) : (s.setDec v).io = s.io := rfl
@[simp] theorem setDec_fair (s : State) (v : Dec) : (s.setDec v).fair = s.fair := rfl
@[simp] theorem setDec_moves (s : State) (v : Dec) : (s.setDec v).moves = s.moves := rfl
@[simp] theorem setDec_freeIdx (s : State) (v : Dec) : (s.setDec v).freeIdx = s.freeIdx := rfl
@[simp] theorem setDec_setDec (s : State) (v w : Dec) : (s.setDec v).setDec w = s.setDec w := rfl

/-! ## setTx -/

@[simp] theorem setTx_params (s : State) (v : Tx) : (s.setTx v).params = s.params := rfl
@[simp] theorem setTx_rx (s : State) (v : Tx) : (s.setTx v).rx = s.rx := rfl
@[simp] theorem setTx_cc (s : State) (v : Tx) : (s.setTx v).cc = s.cc := rfl
@[simp] theorem setTx_fc (s : State) (v : Tx) : (s.setTx v).fc = s.fc := rfl
@[simp] theorem setTx_regs (s : State) (v : Tx) : (s.setTx v).regs = s.regs := rfl
@[simp] theorem setTx_views (s : State) (v : Tx) : (s.setTx v).views = s.views := rfl
@[simp] theorem setTx_dec (s : State) (v : Tx) : (s.setTx v).dec = s.dec := rfl
@[simp] theorem setTx_tx (s : State) (v : Tx) : (s.setTx v).tx = v := rfl
@[simp] theorem setTx_io (s : State) (v : Tx) : (s.setTx v).io = s.io := rfl
@[simp] theorem setTx_fair (s : State) (v : Tx) : (s.setTx v).fair = s.fair := rfl
@[simp] theorem setTx_moves (s : State) (v : Tx) : (s.setTx v).moves = s.moves := rfl
@[simp] theorem setTx_freeIdx (s : State) (v : Tx) : (s.setTx v).freeIdx = s.freeIdx := rfl
@[simp] theorem setTx_setTx (s : State) (v w : Tx) : (s.setTx v).setTx w = s.setTx w := rfl

/-! ## setIo -/

@[simp] theorem setIo_params (s : State) (v : Ports) : (s.setIo v).params = s.params := rfl
@[simp] theorem setIo_rx (s : State) (v : Ports) : (s.setIo v).rx = s.rx := rfl
@[simp] theorem setIo_cc (s : State) (v : Ports) : (s.setIo v).cc = s.cc := rfl
@[simp] theorem setIo_fc (s : State) (v : Ports) : (s.setIo v).fc = s.fc := rfl
@[simp] theorem setIo_regs (s : State) (v : Ports) : (s.setIo v).regs = s.regs := rfl
@[simp] theorem setIo_views (s : State) (v : Ports) : (s.setIo v).views = s.views := rfl
@[simp] theorem setIo_dec (s : State) (v : Ports) : (s.setIo v).dec = s.dec := rfl
@[simp] theorem setIo_tx (s : State) (v : Ports) : (s.setIo v).tx = s.tx := rfl
@[simp] theorem setIo_io (s : State) (v : Ports) : (s.setIo v).io = v := rfl
@[simp] theorem setIo_fair (s : State) (v : Ports) : (s.setIo v).fair = s.fair := rfl
@[simp] theorem setIo_moves (s : State) (v : Ports) : (s.setIo v).moves = s.moves := rfl
@[simp] theorem setIo_freeIdx (s : State) (v : Ports) : (s.setIo v).freeIdx = s.freeIdx := rfl
@[simp] theorem setIo_setIo (s : State) (v w : Ports) : (s.setIo v).setIo w = s.setIo w := rfl

/-! ## setFair -/

@[simp] theorem setFair_params (s : State) (v : Fair) : (s.setFair v).params = s.params := rfl
@[simp] theorem setFair_rx (s : State) (v : Fair) : (s.setFair v).rx = s.rx := rfl
@[simp] theorem setFair_cc (s : State) (v : Fair) : (s.setFair v).cc = s.cc := rfl
@[simp] theorem setFair_fc (s : State) (v : Fair) : (s.setFair v).fc = s.fc := rfl
@[simp] theorem setFair_regs (s : State) (v : Fair) : (s.setFair v).regs = s.regs := rfl
@[simp] theorem setFair_views (s : State) (v : Fair) : (s.setFair v).views = s.views := rfl
@[simp] theorem setFair_dec (s : State) (v : Fair) : (s.setFair v).dec = s.dec := rfl
@[simp] theorem setFair_tx (s : State) (v : Fair) : (s.setFair v).tx = s.tx := rfl
@[simp] theorem setFair_io (s : State) (v : Fair) : (s.setFair v).io = s.io := rfl
@[simp] theorem setFair_fair (s : State) (v : Fair) : (s.setFair v).fair = v := rfl
@[simp] theorem setFair_moves (s : State) (v : Fair) : (s.setFair v).moves = s.moves := rfl
@[simp] theorem setFair_freeIdx (s : State) (v : Fair) : (s.setFair v).freeIdx = s.freeIdx := rfl
@[simp] theorem setFair_setFair (s : State) (v w : Fair) : (s.setFair v).setFair w = s.setFair w := rfl

/-! ## setMoves -/

@[simp] theorem setMoves_params (s : State) (v : List Move) : (s.setMoves v).params = s.params := rfl
@[simp] theorem setMoves_rx (s : State) (v : List Move) : (s.setMoves v).rx = s.rx := rfl
@[simp] theorem setMoves_cc (s : State) (v : List Move) : (s.setMoves v).cc = s.cc := rfl
@[simp] theorem setMoves_fc (s : State) (v : List Move) : (s.setMoves v).fc = s.fc := rfl
@[simp] theorem setMoves_regs (s : State) (v : List Move) : (s.setMoves v).regs = s.regs := rfl
@[simp] theorem setMoves_views (s : State) (v : List Move) : (s.setMoves v).views = s.views := rfl
@[simp] theorem setMoves_dec (s : State) (v : List Move) : (s.setMoves v).dec = s.dec := rfl
@[simp] theorem setMoves_tx (s : State) (v : List Move) : (s.setMoves v).tx = s.tx := rfl
@[simp] theorem setMoves_io (s : State) (v : List Move) : (s.setMoves v).io = s.io := rfl
@[simp] theorem setMoves_fair (s : State) (v : List Move) : (s.setMoves v).fair = s.fair := rfl
@[simp] theorem setMoves_moves (s : State) (v : List Move) : (s.setMoves v).moves = v := rfl
@[simp] theorem setMoves_freeIdx (s : State) (v : List Move) : (s.setMoves v).freeIdx = s.freeIdx := rfl
@[simp] theorem setMoves_setMoves (s : State) (v w : List Move) : (s.setMoves v).setMoves w = s.setMoves w := rfl

/-! ## setFreeIdx -/

@[simp] theorem setFreeIdx_params (s : State) (v : Nat) : (s.setFreeIdx v).params = s.params := rfl
@[simp] theorem setFreeIdx_rx (s : State) (v : Nat) : (s.setFreeIdx v).rx = s.rx := rfl
@[simp] theorem setFreeIdx_cc (s : State) (v : Nat) : (s.setFreeIdx v).cc = s.cc := rfl
@[simp] theorem setFreeIdx_fc (s : State) (v : Nat) : (s.setFreeIdx v).fc = s.fc := rfl
@[simp] theorem setFreeIdx_regs (s : State) (v : Nat) : (s.setFreeIdx v).regs = s.regs := rfl
@[simp] theorem setFreeIdx_views (s : State) (v : Nat) : (s.setFreeIdx v).views = s.views := rfl
@[simp] theorem setFreeIdx_dec (s : State) (v : Nat) : (s.setFreeIdx v).dec = s.dec := rfl
@[simp] theorem setFreeIdx_tx (s : State) (v : Nat) : (s.setFreeIdx v).tx = s.tx := rfl
@[simp] theorem setFreeIdx_io (s : State) (v : Nat) : (s.setFreeIdx v).io = s.io := rfl
@[simp] theorem setFreeIdx_fair (s : State) (v : Nat) : (s.setFreeIdx v).fair = s.fair := rfl
@[simp] theorem setFreeIdx_moves (s : State) (v : Nat) : (s.setFreeIdx v).moves = s.moves := rfl
@[simp] theorem setFreeIdx_freeIdx (s : State) (v : Nat) : (s.setFreeIdx v).freeIdx = v := rfl
@[simp] theorem setFreeIdx_setFreeIdx (s : State) (v w : Nat) : (s.setFreeIdx v).setFreeIdx w = s.setFreeIdx w := rfl

end Sys2Proof.Machine
end

