-- ==== Sys2Proof/Laws/Frames.lean ====
section
/-! SUPPORT. The frame of each shared operation: the parts of the state it leaves. -/

namespace Sys2Proof.Machine

/-! ## pushCond -/

@[simp] theorem pushCond_params (s : State) (c : Code) : (s.pushCond c).params = s.params := rfl
@[simp] theorem pushCond_rx (s : State) (c : Code) : (s.pushCond c).rx = s.rx := rfl
@[simp] theorem pushCond_fc (s : State) (c : Code) : (s.pushCond c).fc = s.fc := rfl
@[simp] theorem pushCond_regs (s : State) (c : Code) : (s.pushCond c).regs = s.regs := rfl
@[simp] theorem pushCond_views (s : State) (c : Code) : (s.pushCond c).views = s.views := rfl
@[simp] theorem pushCond_dec (s : State) (c : Code) : (s.pushCond c).dec = s.dec := rfl
@[simp] theorem pushCond_tx (s : State) (c : Code) : (s.pushCond c).tx = s.tx := rfl
@[simp] theorem pushCond_io (s : State) (c : Code) : (s.pushCond c).io = s.io := rfl
@[simp] theorem pushCond_fair (s : State) (c : Code) : (s.pushCond c).fair = s.fair := rfl
@[simp] theorem pushCond_moves (s : State) (c : Code) : (s.pushCond c).moves = s.moves := rfl
@[simp] theorem pushCond_freeIdx (s : State) (c : Code) : (s.pushCond c).freeIdx = s.freeIdx := rfl

/-! ## pushFrame -/

@[simp] theorem pushFrame_params (s : State) (f : Word) : (s.pushFrame f).params = s.params := rfl
@[simp] theorem pushFrame_rx (s : State) (f : Word) : (s.pushFrame f).rx = s.rx := rfl
@[simp] theorem pushFrame_cc (s : State) (f : Word) : (s.pushFrame f).cc = s.cc := rfl
@[simp] theorem pushFrame_regs (s : State) (f : Word) : (s.pushFrame f).regs = s.regs := rfl
@[simp] theorem pushFrame_views (s : State) (f : Word) : (s.pushFrame f).views = s.views := rfl
@[simp] theorem pushFrame_dec (s : State) (f : Word) : (s.pushFrame f).dec = s.dec := rfl
@[simp] theorem pushFrame_tx (s : State) (f : Word) : (s.pushFrame f).tx = s.tx := rfl
@[simp] theorem pushFrame_io (s : State) (f : Word) : (s.pushFrame f).io = s.io := rfl
@[simp] theorem pushFrame_fair (s : State) (f : Word) : (s.pushFrame f).fair = s.fair := rfl
@[simp] theorem pushFrame_moves (s : State) (f : Word) : (s.pushFrame f).moves = s.moves := rfl
@[simp] theorem pushFrame_freeIdx (s : State) (f : Word) : (s.pushFrame f).freeIdx = s.freeIdx := rfl

/-! ## emit -/

@[simp] theorem emit_params (s : State) (c : Option Code) : (s.emit c).params = s.params := rfl
@[simp] theorem emit_rx (s : State) (c : Option Code) : (s.emit c).rx = s.rx := rfl
@[simp] theorem emit_cc (s : State) (c : Option Code) : (s.emit c).cc = s.cc := rfl
@[simp] theorem emit_fc (s : State) (c : Option Code) : (s.emit c).fc = s.fc := rfl
@[simp] theorem emit_regs (s : State) (c : Option Code) : (s.emit c).regs = s.regs := rfl
@[simp] theorem emit_views (s : State) (c : Option Code) : (s.emit c).views = s.views := rfl
@[simp] theorem emit_dec (s : State) (c : Option Code) : (s.emit c).dec = s.dec := rfl
@[simp] theorem emit_tx (s : State) (c : Option Code) : (s.emit c).tx = s.tx := rfl
@[simp] theorem emit_fair (s : State) (c : Option Code) : (s.emit c).fair = s.fair := rfl
@[simp] theorem emit_moves (s : State) (c : Option Code) : (s.emit c).moves = s.moves := rfl
@[simp] theorem emit_freeIdx (s : State) (c : Option Code) : (s.emit c).freeIdx = s.freeIdx := rfl

/-! ## dropCond -/

@[simp] theorem dropCond_params (s : State) : (s.dropCond).params = s.params := rfl
@[simp] theorem dropCond_cc (s : State) : (s.dropCond).cc = s.cc := rfl
@[simp] theorem dropCond_fc (s : State) : (s.dropCond).fc = s.fc := rfl
@[simp] theorem dropCond_regs (s : State) : (s.dropCond).regs = s.regs := rfl
@[simp] theorem dropCond_views (s : State) : (s.dropCond).views = s.views := rfl
@[simp] theorem dropCond_dec (s : State) : (s.dropCond).dec = s.dec := rfl
@[simp] theorem dropCond_tx (s : State) : (s.dropCond).tx = s.tx := rfl
@[simp] theorem dropCond_io (s : State) : (s.dropCond).io = s.io := rfl
@[simp] theorem dropCond_fair (s : State) : (s.dropCond).fair = s.fair := rfl
@[simp] theorem dropCond_moves (s : State) : (s.dropCond).moves = s.moves := rfl
@[simp] theorem dropCond_freeIdx (s : State) : (s.dropCond).freeIdx = s.freeIdx := rfl

/-! ## pushMarker -/

@[simp] theorem pushMarker_params (s : State) : (s.pushMarker).params = s.params := rfl
@[simp] theorem pushMarker_fc (s : State) : (s.pushMarker).fc = s.fc := rfl
@[simp] theorem pushMarker_regs (s : State) : (s.pushMarker).regs = s.regs := rfl
@[simp] theorem pushMarker_views (s : State) : (s.pushMarker).views = s.views := rfl
@[simp] theorem pushMarker_dec (s : State) : (s.pushMarker).dec = s.dec := rfl
@[simp] theorem pushMarker_tx (s : State) : (s.pushMarker).tx = s.tx := rfl
@[simp] theorem pushMarker_io (s : State) : (s.pushMarker).io = s.io := rfl
@[simp] theorem pushMarker_fair (s : State) : (s.pushMarker).fair = s.fair := rfl
@[simp] theorem pushMarker_moves (s : State) : (s.pushMarker).moves = s.moves := rfl
@[simp] theorem pushMarker_freeIdx (s : State) : (s.pushMarker).freeIdx = s.freeIdx := rfl

/-! ## writeSide -/

@[simp] theorem writeSide_params (s : State) (c : Option Code) : (s.writeSide c).params = s.params := by
  simp only [State.writeSide]
  (repeat' split) <;> simp
@[simp] theorem writeSide_fc (s : State) (c : Option Code) : (s.writeSide c).fc = s.fc := by
  simp only [State.writeSide]
  (repeat' split) <;> simp
@[simp] theorem writeSide_regs (s : State) (c : Option Code) : (s.writeSide c).regs = s.regs := by
  simp only [State.writeSide]
  (repeat' split) <;> simp
@[simp] theorem writeSide_views (s : State) (c : Option Code) : (s.writeSide c).views = s.views := by
  simp only [State.writeSide]
  (repeat' split) <;> simp
@[simp] theorem writeSide_dec (s : State) (c : Option Code) : (s.writeSide c).dec = s.dec := by
  simp only [State.writeSide]
  (repeat' split) <;> simp
@[simp] theorem writeSide_tx (s : State) (c : Option Code) : (s.writeSide c).tx = s.tx := by
  simp only [State.writeSide]
  (repeat' split) <;> simp
@[simp] theorem writeSide_fair (s : State) (c : Option Code) : (s.writeSide c).fair = s.fair := by
  simp only [State.writeSide]
  (repeat' split) <;> simp
@[simp] theorem writeSide_moves (s : State) (c : Option Code) : (s.writeSide c).moves = s.moves := by
  simp only [State.writeSide]
  (repeat' split) <;> simp
@[simp] theorem writeSide_freeIdx (s : State) (c : Option Code) : (s.writeSide c).freeIdx = s.freeIdx := by
  simp only [State.writeSide]
  (repeat' split) <;> simp

/-! ## countViolation -/

@[simp] theorem countViolation_params (s : State) : (s.countViolation).params = s.params := rfl
@[simp] theorem countViolation_rx (s : State) : (s.countViolation).rx = s.rx := rfl
@[simp] theorem countViolation_cc (s : State) : (s.countViolation).cc = s.cc := rfl
@[simp] theorem countViolation_fc (s : State) : (s.countViolation).fc = s.fc := rfl
@[simp] theorem countViolation_views (s : State) : (s.countViolation).views = s.views := rfl
@[simp] theorem countViolation_dec (s : State) : (s.countViolation).dec = s.dec := rfl
@[simp] theorem countViolation_tx (s : State) : (s.countViolation).tx = s.tx := rfl
@[simp] theorem countViolation_io (s : State) : (s.countViolation).io = s.io := rfl
@[simp] theorem countViolation_fair (s : State) : (s.countViolation).fair = s.fair := rfl
@[simp] theorem countViolation_moves (s : State) : (s.countViolation).moves = s.moves := rfl
@[simp] theorem countViolation_freeIdx (s : State) : (s.countViolation).freeIdx = s.freeIdx := rfl

/-! ## countDiscard -/

@[simp] theorem countDiscard_params (s : State) : (s.countDiscard).params = s.params := rfl
@[simp] theorem countDiscard_rx (s : State) : (s.countDiscard).rx = s.rx := rfl
@[simp] theorem countDiscard_cc (s : State) : (s.countDiscard).cc = s.cc := rfl
@[simp] theorem countDiscard_fc (s : State) : (s.countDiscard).fc = s.fc := rfl
@[simp] theorem countDiscard_views (s : State) : (s.countDiscard).views = s.views := rfl
@[simp] theorem countDiscard_dec (s : State) : (s.countDiscard).dec = s.dec := rfl
@[simp] theorem countDiscard_tx (s : State) : (s.countDiscard).tx = s.tx := rfl
@[simp] theorem countDiscard_io (s : State) : (s.countDiscard).io = s.io := rfl
@[simp] theorem countDiscard_fair (s : State) : (s.countDiscard).fair = s.fair := rfl
@[simp] theorem countDiscard_moves (s : State) : (s.countDiscard).moves = s.moves := rfl
@[simp] theorem countDiscard_freeIdx (s : State) : (s.countDiscard).freeIdx = s.freeIdx := rfl

/-! ## raiseCondOvf -/

@[simp] theorem raiseCondOvf_params (s : State) : (s.raiseCondOvf).params = s.params := rfl
@[simp] theorem raiseCondOvf_rx (s : State) : (s.raiseCondOvf).rx = s.rx := rfl
@[simp] theorem raiseCondOvf_cc (s : State) : (s.raiseCondOvf).cc = s.cc := rfl
@[simp] theorem raiseCondOvf_fc (s : State) : (s.raiseCondOvf).fc = s.fc := rfl
@[simp] theorem raiseCondOvf_views (s : State) : (s.raiseCondOvf).views = s.views := rfl
@[simp] theorem raiseCondOvf_dec (s : State) : (s.raiseCondOvf).dec = s.dec := rfl
@[simp] theorem raiseCondOvf_tx (s : State) : (s.raiseCondOvf).tx = s.tx := rfl
@[simp] theorem raiseCondOvf_io (s : State) : (s.raiseCondOvf).io = s.io := rfl
@[simp] theorem raiseCondOvf_fair (s : State) : (s.raiseCondOvf).fair = s.fair := rfl
@[simp] theorem raiseCondOvf_moves (s : State) : (s.raiseCondOvf).moves = s.moves := rfl
@[simp] theorem raiseCondOvf_freeIdx (s : State) : (s.raiseCondOvf).freeIdx = s.freeIdx := rfl

/-! ## raiseFramePushed -/

@[simp] theorem raiseFramePushed_params (s : State) : (s.raiseFramePushed).params = s.params := rfl
@[simp] theorem raiseFramePushed_rx (s : State) : (s.raiseFramePushed).rx = s.rx := rfl
@[simp] theorem raiseFramePushed_cc (s : State) : (s.raiseFramePushed).cc = s.cc := rfl
@[simp] theorem raiseFramePushed_fc (s : State) : (s.raiseFramePushed).fc = s.fc := rfl
@[simp] theorem raiseFramePushed_views (s : State) : (s.raiseFramePushed).views = s.views := rfl
@[simp] theorem raiseFramePushed_dec (s : State) : (s.raiseFramePushed).dec = s.dec := rfl
@[simp] theorem raiseFramePushed_tx (s : State) : (s.raiseFramePushed).tx = s.tx := rfl
@[simp] theorem raiseFramePushed_io (s : State) : (s.raiseFramePushed).io = s.io := rfl
@[simp] theorem raiseFramePushed_fair (s : State) : (s.raiseFramePushed).fair = s.fair := rfl
@[simp] theorem raiseFramePushed_moves (s : State) : (s.raiseFramePushed).moves = s.moves := rfl
@[simp] theorem raiseFramePushed_freeIdx (s : State) : (s.raiseFramePushed).freeIdx = s.freeIdx := rfl

/-! ## raiseTxDone -/

@[simp] theorem raiseTxDone_params (s : State) : (s.raiseTxDone).params = s.params := rfl
@[simp] theorem raiseTxDone_rx (s : State) : (s.raiseTxDone).rx = s.rx := rfl
@[simp] theorem raiseTxDone_cc (s : State) : (s.raiseTxDone).cc = s.cc := rfl
@[simp] theorem raiseTxDone_fc (s : State) : (s.raiseTxDone).fc = s.fc := rfl
@[simp] theorem raiseTxDone_views (s : State) : (s.raiseTxDone).views = s.views := rfl
@[simp] theorem raiseTxDone_dec (s : State) : (s.raiseTxDone).dec = s.dec := rfl
@[simp] theorem raiseTxDone_tx (s : State) : (s.raiseTxDone).tx = s.tx := rfl
@[simp] theorem raiseTxDone_io (s : State) : (s.raiseTxDone).io = s.io := rfl
@[simp] theorem raiseTxDone_fair (s : State) : (s.raiseTxDone).fair = s.fair := rfl
@[simp] theorem raiseTxDone_moves (s : State) : (s.raiseTxDone).moves = s.moves := rfl
@[simp] theorem raiseTxDone_freeIdx (s : State) : (s.raiseTxDone).freeIdx = s.freeIdx := rfl

/-! ## applyDec -/

@[simp] theorem applyDec_params (s : State) (r : Dec × DecOut) : (s.applyDec r).params = s.params := by
  simp only [State.applyDec]
  (repeat' split) <;> simp
@[simp] theorem applyDec_rx (s : State) (r : Dec × DecOut) : (s.applyDec r).rx = s.rx := by
  simp only [State.applyDec]
  (repeat' split) <;> simp
@[simp] theorem applyDec_cc (s : State) (r : Dec × DecOut) : (s.applyDec r).cc = s.cc := by
  simp only [State.applyDec]
  (repeat' split) <;> simp
@[simp] theorem applyDec_views (s : State) (r : Dec × DecOut) : (s.applyDec r).views = s.views := by
  simp only [State.applyDec]
  (repeat' split) <;> simp
@[simp] theorem applyDec_tx (s : State) (r : Dec × DecOut) : (s.applyDec r).tx = s.tx := by
  simp only [State.applyDec]
  (repeat' split) <;> simp
@[simp] theorem applyDec_io (s : State) (r : Dec × DecOut) : (s.applyDec r).io = s.io := by
  simp only [State.applyDec]
  (repeat' split) <;> simp
@[simp] theorem applyDec_fair (s : State) (r : Dec × DecOut) : (s.applyDec r).fair = s.fair := by
  simp only [State.applyDec]
  (repeat' split) <;> simp
@[simp] theorem applyDec_moves (s : State) (r : Dec × DecOut) : (s.applyDec r).moves = s.moves := by
  simp only [State.applyDec]
  (repeat' split) <;> simp
@[simp] theorem applyDec_freeIdx (s : State) (r : Dec × DecOut) : (s.applyDec r).freeIdx = s.freeIdx := by
  simp only [State.applyDec]
  (repeat' split) <;> simp

/-! ## driveRdata -/

@[simp] theorem driveRdata_params (s : State) (v : Word) : (s.driveRdata v).params = s.params := rfl
@[simp] theorem driveRdata_rx (s : State) (v : Word) : (s.driveRdata v).rx = s.rx := rfl
@[simp] theorem driveRdata_cc (s : State) (v : Word) : (s.driveRdata v).cc = s.cc := rfl
@[simp] theorem driveRdata_fc (s : State) (v : Word) : (s.driveRdata v).fc = s.fc := rfl
@[simp] theorem driveRdata_regs (s : State) (v : Word) : (s.driveRdata v).regs = s.regs := rfl
@[simp] theorem driveRdata_views (s : State) (v : Word) : (s.driveRdata v).views = s.views := rfl
@[simp] theorem driveRdata_dec (s : State) (v : Word) : (s.driveRdata v).dec = s.dec := rfl
@[simp] theorem driveRdata_tx (s : State) (v : Word) : (s.driveRdata v).tx = s.tx := rfl
@[simp] theorem driveRdata_fair (s : State) (v : Word) : (s.driveRdata v).fair = s.fair := rfl
@[simp] theorem driveRdata_moves (s : State) (v : Word) : (s.driveRdata v).moves = s.moves := rfl
@[simp] theorem driveRdata_freeIdx (s : State) (v : Word) : (s.driveRdata v).freeIdx = s.freeIdx := rfl

/-! ## busWrite -/

@[simp] theorem busWrite_params (s : State) : (s.busWrite).params = s.params := rfl
@[simp] theorem busWrite_rx (s : State) : (s.busWrite).rx = s.rx := rfl
@[simp] theorem busWrite_cc (s : State) : (s.busWrite).cc = s.cc := rfl
@[simp] theorem busWrite_fc (s : State) : (s.busWrite).fc = s.fc := rfl
@[simp] theorem busWrite_regs (s : State) : (s.busWrite).regs = s.regs := rfl
@[simp] theorem busWrite_views (s : State) : (s.busWrite).views = s.views := rfl
@[simp] theorem busWrite_dec (s : State) : (s.busWrite).dec = s.dec := rfl
@[simp] theorem busWrite_tx (s : State) : (s.busWrite).tx = s.tx := rfl
@[simp] theorem busWrite_fair (s : State) : (s.busWrite).fair = s.fair := rfl
@[simp] theorem busWrite_moves (s : State) : (s.busWrite).moves = s.moves := rfl
@[simp] theorem busWrite_freeIdx (s : State) : (s.busWrite).freeIdx = s.freeIdx := rfl

/-! ## startTelegram -/

@[simp] theorem startTelegram_params (s : State) : (s.startTelegram).params = s.params := by
  unfold State.startTelegram
  (repeat' split) <;> simp
@[simp] theorem startTelegram_rx (s : State) : (s.startTelegram).rx = s.rx := by
  unfold State.startTelegram
  (repeat' split) <;> simp
@[simp] theorem startTelegram_cc (s : State) : (s.startTelegram).cc = s.cc := by
  unfold State.startTelegram
  (repeat' split) <;> simp
@[simp] theorem startTelegram_fc (s : State) : (s.startTelegram).fc = s.fc := by
  unfold State.startTelegram
  (repeat' split) <;> simp
@[simp] theorem startTelegram_regs (s : State) : (s.startTelegram).regs = s.regs := by
  unfold State.startTelegram
  (repeat' split) <;> simp
@[simp] theorem startTelegram_views (s : State) : (s.startTelegram).views = s.views := by
  unfold State.startTelegram
  (repeat' split) <;> simp
@[simp] theorem startTelegram_dec (s : State) : (s.startTelegram).dec = s.dec := by
  unfold State.startTelegram
  (repeat' split) <;> simp
@[simp] theorem startTelegram_io (s : State) : (s.startTelegram).io = s.io := by
  unfold State.startTelegram
  (repeat' split) <;> simp
@[simp] theorem startTelegram_fair (s : State) : (s.startTelegram).fair = s.fair := by
  unfold State.startTelegram
  (repeat' split) <;> simp
@[simp] theorem startTelegram_moves (s : State) : (s.startTelegram).moves = s.moves := by
  unfold State.startTelegram
  (repeat' split) <;> simp
@[simp] theorem startTelegram_freeIdx (s : State) : (s.startTelegram).freeIdx = s.freeIdx := by
  unfold State.startTelegram
  (repeat' split) <;> simp

/-! ## writeCtrl -/

@[simp] theorem writeCtrl_params (s : State) (v : Word) : (s.writeCtrl v).params = s.params := by
  simp only [State.writeCtrl]
  (repeat' split) <;> simp
@[simp] theorem writeCtrl_rx (s : State) (v : Word) : (s.writeCtrl v).rx = s.rx := by
  simp only [State.writeCtrl]
  (repeat' split) <;> simp
@[simp] theorem writeCtrl_cc (s : State) (v : Word) : (s.writeCtrl v).cc = s.cc := by
  simp only [State.writeCtrl]
  (repeat' split) <;> simp
@[simp] theorem writeCtrl_fc (s : State) (v : Word) : (s.writeCtrl v).fc = s.fc := by
  simp only [State.writeCtrl]
  (repeat' split) <;> simp
@[simp] theorem writeCtrl_views (s : State) (v : Word) : (s.writeCtrl v).views = s.views := by
  simp only [State.writeCtrl]
  (repeat' split) <;> simp
@[simp] theorem writeCtrl_dec (s : State) (v : Word) : (s.writeCtrl v).dec = s.dec := by
  simp only [State.writeCtrl]
  (repeat' split) <;> simp
@[simp] theorem writeCtrl_fair (s : State) (v : Word) : (s.writeCtrl v).fair = s.fair := by
  simp only [State.writeCtrl]
  (repeat' split) <;> simp
@[simp] theorem writeCtrl_moves (s : State) (v : Word) : (s.writeCtrl v).moves = s.moves := by
  simp only [State.writeCtrl]
  (repeat' split) <;> simp
@[simp] theorem writeCtrl_freeIdx (s : State) (v : Word) : (s.writeCtrl v).freeIdx = s.freeIdx := by
  simp only [State.writeCtrl]
  (repeat' split) <;> simp

/-! ## guardedWrite -/

@[simp] theorem guardedWrite_params (s : State) (r : Regs) : (s.guardedWrite r).params = s.params := by
  unfold State.guardedWrite
  (repeat' split) <;> simp
@[simp] theorem guardedWrite_rx (s : State) (r : Regs) : (s.guardedWrite r).rx = s.rx := by
  unfold State.guardedWrite
  (repeat' split) <;> simp
@[simp] theorem guardedWrite_cc (s : State) (r : Regs) : (s.guardedWrite r).cc = s.cc := by
  unfold State.guardedWrite
  (repeat' split) <;> simp
@[simp] theorem guardedWrite_fc (s : State) (r : Regs) : (s.guardedWrite r).fc = s.fc := by
  unfold State.guardedWrite
  (repeat' split) <;> simp
@[simp] theorem guardedWrite_views (s : State) (r : Regs) : (s.guardedWrite r).views = s.views := by
  unfold State.guardedWrite
  (repeat' split) <;> simp
@[simp] theorem guardedWrite_dec (s : State) (r : Regs) : (s.guardedWrite r).dec = s.dec := by
  unfold State.guardedWrite
  (repeat' split) <;> simp
@[simp] theorem guardedWrite_tx (s : State) (r : Regs) : (s.guardedWrite r).tx = s.tx := by
  unfold State.guardedWrite
  (repeat' split) <;> simp
@[simp] theorem guardedWrite_fair (s : State) (r : Regs) : (s.guardedWrite r).fair = s.fair := by
  unfold State.guardedWrite
  (repeat' split) <;> simp
@[simp] theorem guardedWrite_moves (s : State) (r : Regs) : (s.guardedWrite r).moves = s.moves := by
  unfold State.guardedWrite
  (repeat' split) <;> simp
@[simp] theorem guardedWrite_freeIdx (s : State) (r : Regs) : (s.guardedWrite r).freeIdx = s.freeIdx := by
  unfold State.guardedWrite
  (repeat' split) <;> simp

/-! ## applyDet -/

@[simp] theorem applyDet_params (s : State) (o : Option Code × Rx) : (s.applyDet o).params = s.params := by
  simp [State.applyDet]
@[simp] theorem applyDet_fc (s : State) (o : Option Code × Rx) : (s.applyDet o).fc = s.fc := by
  simp [State.applyDet]
@[simp] theorem applyDet_regs (s : State) (o : Option Code × Rx) : (s.applyDet o).regs = s.regs := by
  simp [State.applyDet]
@[simp] theorem applyDet_views (s : State) (o : Option Code × Rx) : (s.applyDet o).views = s.views := by
  simp [State.applyDet]
@[simp] theorem applyDet_dec (s : State) (o : Option Code × Rx) : (s.applyDet o).dec = s.dec := by
  simp [State.applyDet]
@[simp] theorem applyDet_tx (s : State) (o : Option Code × Rx) : (s.applyDet o).tx = s.tx := by
  simp [State.applyDet]
@[simp] theorem applyDet_fair (s : State) (o : Option Code × Rx) : (s.applyDet o).fair = s.fair := by
  simp [State.applyDet]
@[simp] theorem applyDet_moves (s : State) (o : Option Code × Rx) : (s.applyDet o).moves = s.moves := by
  simp [State.applyDet]
@[simp] theorem applyDet_freeIdx (s : State) (o : Option Code × Rx) : (s.applyDet o).freeIdx = s.freeIdx := by
  simp [State.applyDet]

/-! ## consumeOther -/

@[simp] theorem consumeOther_params (s : State) : (s.consumeOther).params = s.params := by
  simp [State.consumeOther]
@[simp] theorem consumeOther_rx (s : State) : (s.consumeOther).rx = s.rx := by
  simp [State.consumeOther]
@[simp] theorem consumeOther_cc (s : State) : (s.consumeOther).cc = s.cc := by
  simp [State.consumeOther]
@[simp] theorem consumeOther_views (s : State) : (s.consumeOther).views = s.views := by
  simp [State.consumeOther]
@[simp] theorem consumeOther_tx (s : State) : (s.consumeOther).tx = s.tx := by
  simp [State.consumeOther]
@[simp] theorem consumeOther_io (s : State) : (s.consumeOther).io = s.io := by
  simp [State.consumeOther]
@[simp] theorem consumeOther_fair (s : State) : (s.consumeOther).fair = s.fair := by
  simp [State.consumeOther]
@[simp] theorem consumeOther_moves (s : State) : (s.consumeOther).moves = s.moves := by
  simp [State.consumeOther]
@[simp] theorem consumeOther_freeIdx (s : State) : (s.consumeOther).freeIdx = s.freeIdx := by
  simp [State.consumeOther]

/-! ## latch -/

@[simp] theorem latch_params (s : State) (t : Tick) : (s.latch t).params = s.params := rfl
@[simp] theorem latch_rx (s : State) (t : Tick) : (s.latch t).rx = s.rx := rfl
@[simp] theorem latch_cc (s : State) (t : Tick) : (s.latch t).cc = s.cc := rfl
@[simp] theorem latch_fc (s : State) (t : Tick) : (s.latch t).fc = s.fc := rfl
@[simp] theorem latch_regs (s : State) (t : Tick) : (s.latch t).regs = s.regs := rfl
@[simp] theorem latch_views (s : State) (t : Tick) : (s.latch t).views = s.views := rfl
@[simp] theorem latch_dec (s : State) (t : Tick) : (s.latch t).dec = s.dec := rfl
@[simp] theorem latch_tx (s : State) (t : Tick) : (s.latch t).tx = s.tx := rfl
@[simp] theorem latch_fair (s : State) (t : Tick) : (s.latch t).fair = s.fair := rfl
@[simp] theorem latch_moves (s : State) (t : Tick) : (s.latch t).moves = s.moves := rfl
@[simp] theorem latch_freeIdx (s : State) (t : Tick) : (s.latch t).freeIdx = s.freeIdx := rfl

/-! ## rxDisabled -/

@[simp] theorem rxDisabled_params (s : State) : (s.rxDisabled).params = s.params := rfl
@[simp] theorem rxDisabled_cc (s : State) : (s.rxDisabled).cc = s.cc := rfl
@[simp] theorem rxDisabled_fc (s : State) : (s.rxDisabled).fc = s.fc := rfl
@[simp] theorem rxDisabled_regs (s : State) : (s.rxDisabled).regs = s.regs := rfl
@[simp] theorem rxDisabled_views (s : State) : (s.rxDisabled).views = s.views := rfl
@[simp] theorem rxDisabled_dec (s : State) : (s.rxDisabled).dec = s.dec := rfl
@[simp] theorem rxDisabled_tx (s : State) : (s.rxDisabled).tx = s.tx := rfl
@[simp] theorem rxDisabled_fair (s : State) : (s.rxDisabled).fair = s.fair := rfl
@[simp] theorem rxDisabled_moves (s : State) : (s.rxDisabled).moves = s.moves := rfl
@[simp] theorem rxDisabled_freeIdx (s : State) : (s.rxDisabled).freeIdx = s.freeIdx := rfl

/-! ## reportDrained -/

@[simp] theorem reportDrained_params (s : State) (c : Code) : (s.reportDrained c).params = s.params := by
  unfold State.reportDrained
  (repeat' split) <;> simp
@[simp] theorem reportDrained_rx (s : State) (c : Code) : (s.reportDrained c).rx = s.rx := by
  unfold State.reportDrained
  (repeat' split) <;> simp
@[simp] theorem reportDrained_cc (s : State) (c : Code) : (s.reportDrained c).cc = s.cc := by
  unfold State.reportDrained
  (repeat' split) <;> simp
@[simp] theorem reportDrained_fc (s : State) (c : Code) : (s.reportDrained c).fc = s.fc := by
  unfold State.reportDrained
  (repeat' split) <;> simp
@[simp] theorem reportDrained_views (s : State) (c : Code) : (s.reportDrained c).views = s.views := by
  unfold State.reportDrained
  (repeat' split) <;> simp
@[simp] theorem reportDrained_dec (s : State) (c : Code) : (s.reportDrained c).dec = s.dec := by
  unfold State.reportDrained
  (repeat' split) <;> simp
@[simp] theorem reportDrained_tx (s : State) (c : Code) : (s.reportDrained c).tx = s.tx := by
  unfold State.reportDrained
  (repeat' split) <;> simp
@[simp] theorem reportDrained_io (s : State) (c : Code) : (s.reportDrained c).io = s.io := by
  unfold State.reportDrained
  (repeat' split) <;> simp
@[simp] theorem reportDrained_fair (s : State) (c : Code) : (s.reportDrained c).fair = s.fair := by
  unfold State.reportDrained
  (repeat' split) <;> simp
@[simp] theorem reportDrained_moves (s : State) (c : Code) : (s.reportDrained c).moves = s.moves := by
  unfold State.reportDrained
  (repeat' split) <;> simp
@[simp] theorem reportDrained_freeIdx (s : State) (c : Code) : (s.reportDrained c).freeIdx = s.freeIdx := by
  unfold State.reportDrained
  (repeat' split) <;> simp

/-! ## decHold -/

@[simp] theorem decHold_params (s : State) : (s.decHold).params = s.params := rfl
@[simp] theorem decHold_rx (s : State) : (s.decHold).rx = s.rx := rfl
@[simp] theorem decHold_cc (s : State) : (s.decHold).cc = s.cc := rfl
@[simp] theorem decHold_fc (s : State) : (s.decHold).fc = s.fc := rfl
@[simp] theorem decHold_regs (s : State) : (s.decHold).regs = s.regs := rfl
@[simp] theorem decHold_views (s : State) : (s.decHold).views = s.views := rfl
@[simp] theorem decHold_tx (s : State) : (s.decHold).tx = s.tx := rfl
@[simp] theorem decHold_io (s : State) : (s.decHold).io = s.io := rfl
@[simp] theorem decHold_fair (s : State) : (s.decHold).fair = s.fair := rfl
@[simp] theorem decHold_moves (s : State) : (s.decHold).moves = s.moves := rfl
@[simp] theorem decHold_freeIdx (s : State) : (s.decHold).freeIdx = s.freeIdx := rfl

/-! ## shiftRx -/

@[simp] theorem shiftRx_params (s0 s : State) (e : RxEdge) : (s0.shiftRx s e).params = s.params := rfl
@[simp] theorem shiftRx_fc (s0 s : State) (e : RxEdge) : (s0.shiftRx s e).fc = s.fc := rfl
@[simp] theorem shiftRx_regs (s0 s : State) (e : RxEdge) : (s0.shiftRx s e).regs = s.regs := rfl
@[simp] theorem shiftRx_views (s0 s : State) (e : RxEdge) : (s0.shiftRx s e).views = s.views := rfl
@[simp] theorem shiftRx_dec (s0 s : State) (e : RxEdge) : (s0.shiftRx s e).dec = s.dec := rfl
@[simp] theorem shiftRx_tx (s0 s : State) (e : RxEdge) : (s0.shiftRx s e).tx = s.tx := rfl
@[simp] theorem shiftRx_io (s0 s : State) (e : RxEdge) : (s0.shiftRx s e).io = s.io := rfl
@[simp] theorem shiftRx_fair (s0 s : State) (e : RxEdge) : (s0.shiftRx s e).fair = s.fair := rfl
@[simp] theorem shiftRx_moves (s0 s : State) (e : RxEdge) : (s0.shiftRx s e).moves = s.moves := rfl
@[simp] theorem shiftRx_freeIdx (s0 s : State) (e : RxEdge) : (s0.shiftRx s e).freeIdx = s.freeIdx := rfl

/-! ## shiftSys -/

@[simp] theorem shiftSys_params (s0 s : State) (e : SysEdge) : (s0.shiftSys s e).params = s.params := rfl
@[simp] theorem shiftSys_rx (s0 s : State) (e : SysEdge) : (s0.shiftSys s e).rx = s.rx := rfl
@[simp] theorem shiftSys_regs (s0 s : State) (e : SysEdge) : (s0.shiftSys s e).regs = s.regs := rfl
@[simp] theorem shiftSys_dec (s0 s : State) (e : SysEdge) : (s0.shiftSys s e).dec = s.dec := rfl
@[simp] theorem shiftSys_tx (s0 s : State) (e : SysEdge) : (s0.shiftSys s e).tx = s.tx := rfl
@[simp] theorem shiftSys_io (s0 s : State) (e : SysEdge) : (s0.shiftSys s e).io = s.io := rfl
@[simp] theorem shiftSys_fair (s0 s : State) (e : SysEdge) : (s0.shiftSys s e).fair = s.fair := rfl
@[simp] theorem shiftSys_moves (s0 s : State) (e : SysEdge) : (s0.shiftSys s e).moves = s.moves := rfl
@[simp] theorem shiftSys_freeIdx (s0 s : State) (e : SysEdge) : (s0.shiftSys s e).freeIdx = s.freeIdx := rfl

/-! ## shiftCons -/

@[simp] theorem shiftCons_params (s0 s : State) (e : ConsEdge) : (s0.shiftCons s e).params = s.params := rfl
@[simp] theorem shiftCons_rx (s0 s : State) (e : ConsEdge) : (s0.shiftCons s e).rx = s.rx := rfl
@[simp] theorem shiftCons_cc (s0 s : State) (e : ConsEdge) : (s0.shiftCons s e).cc = s.cc := rfl
@[simp] theorem shiftCons_regs (s0 s : State) (e : ConsEdge) : (s0.shiftCons s e).regs = s.regs := rfl
@[simp] theorem shiftCons_views (s0 s : State) (e : ConsEdge) : (s0.shiftCons s e).views = s.views := rfl
@[simp] theorem shiftCons_dec (s0 s : State) (e : ConsEdge) : (s0.shiftCons s e).dec = s.dec := rfl
@[simp] theorem shiftCons_tx (s0 s : State) (e : ConsEdge) : (s0.shiftCons s e).tx = s.tx := rfl
@[simp] theorem shiftCons_io (s0 s : State) (e : ConsEdge) : (s0.shiftCons s e).io = s.io := rfl
@[simp] theorem shiftCons_fair (s0 s : State) (e : ConsEdge) : (s0.shiftCons s e).fair = s.fair := rfl
@[simp] theorem shiftCons_moves (s0 s : State) (e : ConsEdge) : (s0.shiftCons s e).moves = s.moves := rfl
@[simp] theorem shiftCons_freeIdx (s0 s : State) (e : ConsEdge) : (s0.shiftCons s e).freeIdx = s.freeIdx := rfl

/-! ## shiftAll -/

@[simp] theorem shiftAll_params (s0 s : State) (t : Tick) : (s0.shiftAll s t).params = s.params := by
  simp only [State.shiftAll]
  (repeat' split) <;> simp
@[simp] theorem shiftAll_regs (s0 s : State) (t : Tick) : (s0.shiftAll s t).regs = s.regs := by
  simp only [State.shiftAll]
  (repeat' split) <;> simp
@[simp] theorem shiftAll_dec (s0 s : State) (t : Tick) : (s0.shiftAll s t).dec = s.dec := by
  simp only [State.shiftAll]
  (repeat' split) <;> simp
@[simp] theorem shiftAll_tx (s0 s : State) (t : Tick) : (s0.shiftAll s t).tx = s.tx := by
  simp only [State.shiftAll]
  (repeat' split) <;> simp
@[simp] theorem shiftAll_io (s0 s : State) (t : Tick) : (s0.shiftAll s t).io = s.io := by
  simp only [State.shiftAll]
  (repeat' split) <;> simp
@[simp] theorem shiftAll_fair (s0 s : State) (t : Tick) : (s0.shiftAll s t).fair = s.fair := by
  simp only [State.shiftAll]
  (repeat' split) <;> simp
@[simp] theorem shiftAll_moves (s0 s : State) (t : Tick) : (s0.shiftAll s t).moves = s.moves := by
  simp only [State.shiftAll]
  (repeat' split) <;> simp
@[simp] theorem shiftAll_freeIdx (s0 s : State) (t : Tick) : (s0.shiftAll s t).freeIdx = s.freeIdx := by
  simp only [State.shiftAll]
  (repeat' split) <;> simp

/-! ## settle -/

@[simp] theorem settle_params (s0 s : State) (rx sys cons : Bool) : (s0.settle s rx sys cons).params = s.params := rfl
@[simp] theorem settle_rx (s0 s : State) (rx sys cons : Bool) : (s0.settle s rx sys cons).rx = s.rx := rfl
@[simp] theorem settle_cc (s0 s : State) (rx sys cons : Bool) : (s0.settle s rx sys cons).cc = s.cc := rfl
@[simp] theorem settle_fc (s0 s : State) (rx sys cons : Bool) : (s0.settle s rx sys cons).fc = s.fc := rfl
@[simp] theorem settle_regs (s0 s : State) (rx sys cons : Bool) : (s0.settle s rx sys cons).regs = s.regs := rfl
@[simp] theorem settle_views (s0 s : State) (rx sys cons : Bool) : (s0.settle s rx sys cons).views = s.views := rfl
@[simp] theorem settle_dec (s0 s : State) (rx sys cons : Bool) : (s0.settle s rx sys cons).dec = s.dec := rfl
@[simp] theorem settle_tx (s0 s : State) (rx sys cons : Bool) : (s0.settle s rx sys cons).tx = s.tx := rfl
@[simp] theorem settle_io (s0 s : State) (rx sys cons : Bool) : (s0.settle s rx sys cons).io = s.io := rfl
@[simp] theorem settle_moves (s0 s : State) (rx sys cons : Bool) : (s0.settle s rx sys cons).moves = s.moves := rfl
@[simp] theorem settle_freeIdx (s0 s : State) (rx sys cons : Bool) : (s0.settle s rx sys cons).freeIdx = s.freeIdx := rfl

end Sys2Proof.Machine
end

