-- ==== Sys2Proof/Laws/Ops.lean ====
section
/-! SUPPORT. For each shared operation, one lemma that says once everything it can do. -/

namespace Sys2Proof.Machine

/-! ## Sequencing and pops -/

theorem andThen_eq_next {o : Result} {k : State → Result} {t : State} :
    andThen o k = .next t ↔ ∃ s, o = .next s ∧ k s = .next t := by
  cases o <;> simp [andThen]

@[simp] theorem andThen_next (s : State) (k : State → Result) : andThen (.next s) k = k s := rfl

theorem pop_eq_some {w : Nat} {c c' : Chan w} {v : BitVec w} :
    c.pop = some (v, c') ↔ ∃ rest, c.buf = v :: rest ∧ c' = { c with buf := rest, rcnt := c.rcnt + 1 } := by
  unfold Chan.pop
  cases h : c.buf with
  | nil => simp
  | cons x rest => simp [eq_comm, and_comm]

theorem popCond_eq_some {s t : State} {c : Code} :
    s.popCond = some (c, t) ↔ ∃ rest, s.cc.buf = c :: rest ∧
      t = (s.setCc { s.cc with buf := rest, rcnt := s.cc.rcnt + 1 }).setIo { s.io with condPopped := some c } := by
  unfold State.popCond Chan.pop
  cases h : s.cc.buf with
  | nil => simp
  | cons x rest =>
    simp only [Option.some.injEq, Prod.mk.injEq, List.cons.injEq]
    constructor
    · rintro ⟨rfl, rfl⟩
      exact ⟨rest, ⟨rfl, rfl⟩, rfl⟩
    · rintro ⟨_, ⟨rfl, rfl⟩, rfl⟩
      exact ⟨rfl, rfl⟩

theorem popFrame_eq_some {s t : State} {f : Word} :
    s.popFrame = some (f, t) ↔ ∃ rest, s.fc.buf = f :: rest ∧
      t = (s.setFc { s.fc with buf := rest, rcnt := s.fc.rcnt + 1 }).setIo { s.io with framePopped := some f } := by
  unfold State.popFrame Chan.pop
  cases h : s.fc.buf with
  | nil => simp
  | cons x rest =>
    simp only [Option.some.injEq, Prod.mk.injEq, List.cons.injEq]
    constructor
    · rintro ⟨rfl, rfl⟩
      exact ⟨rest, ⟨rfl, rfl⟩, rfl⟩
    · rintro ⟨_, ⟨rfl, rfl⟩, rfl⟩
      exact ⟨rfl, rfl⟩

/-- A read of the condition channel: an empty view changes nothing, else the head is popped or the storage is broken. -/
theorem readCond_cases (s : State) :
    (s.cc.emptyR = true ∧ s.readCond = .next s) ∨
    (s.cc.emptyR = false ∧ s.cc.buf = [] ∧ s.readCond = .fault (.popWithoutEntry .cc)) ∨
    (s.cc.emptyR = false ∧ ∃ c rest, s.cc.buf = c :: rest ∧ s.readCond = .next
      ((s.setCc { s.cc with buf := rest, rcnt := s.cc.rcnt + 1 }).setIo { s.io with condPopped := some c })) := by
  unfold State.readCond
  cases he : s.cc.emptyR with
  | true => simp
  | false =>
    cases hb : s.cc.buf with
    | nil => simp [State.popCond, Chan.pop, hb]
    | cons c rest => simp [State.popCond, Chan.pop, hb]

/-- A read of the frame channel. -/
theorem readFrame_cases (s : State) :
    (s.fc.emptyR = true ∧ s.readFrame = .next s) ∨
    (s.fc.emptyR = false ∧ s.fc.buf = [] ∧ s.readFrame = .fault (.popWithoutEntry .fc)) ∨
    (s.fc.emptyR = false ∧ ∃ f rest, s.fc.buf = f :: rest ∧ s.readFrame = .next
      ((s.setFc { s.fc with buf := rest, rcnt := s.fc.rcnt + 1 }).setIo { s.io with framePopped := some f })) := by
  unfold State.readFrame
  cases he : s.fc.emptyR with
  | true => simp
  | false =>
    cases hb : s.fc.buf with
    | nil => simp [State.popFrame, Chan.pop, hb]
    | cons c rest => simp [State.popFrame, Chan.pop, hb]

/-! ## The write side -/

/-- Everything the write side does to the receive side and the condition channel. -/
theorem writeSide_cases (s : State) (c : Option Code) :
    (s.rxEnView = false ∧ s.writeSide c = s.emit c) ∨
    (s.rxEnView = true ∧ s.rx.ovfPending = true ∧ s.ccFull = false ∧ c = none ∧
      s.writeSide c = (s.emit c).pushMarker) ∨
    (s.rxEnView = true ∧ s.rx.ovfPending = true ∧ s.ccFull = false ∧ c ≠ none ∧
      s.writeSide c = (s.emit c).pushMarker.dropCond) ∨
    (s.rxEnView = true ∧ s.rx.ovfPending = false ∧ s.ccFull = false ∧ (∃ v, c = some v ∧
      s.writeSide c = (s.emit c).pushCond v)) ∨
    (s.rxEnView = true ∧ s.ccFull = true ∧ c ≠ none ∧ s.writeSide c = (s.emit c).dropCond) ∨
    (s.rxEnView = true ∧ c = none ∧ (s.rx.ovfPending = false ∨ s.ccFull = true) ∧ s.writeSide c = s.emit c) := by
  have h1 : (s.emit c).rxEnView = s.rxEnView := rfl
  have h2 : (s.emit c).ccFull = s.ccFull := rfl
  have h3 : (s.emit c).rx = s.rx := rfl
  unfold State.writeSide
  simp only [h1, h2, h3]
  cases s.rxEnView <;> cases s.rx.ovfPending <;> cases s.ccFull <;> cases c <;> simp

/-! ## The decoder's report -/

@[simp] theorem applyDec_nothing (s : State) (d : Dec) : s.applyDec (d, .nothing) = s.setDec d := rfl
@[simp] theorem applyDec_discard (s : State) (d : Dec) : s.applyDec (d, .discard) = (s.setDec d).countDiscard := rfl
@[simp] theorem applyDec_violation (s : State) (d : Dec) :
    s.applyDec (d, .violation) = (s.setDec d).countViolation := rfl
@[simp] theorem applyDec_frame (s : State) (d : Dec) (f : Word) :
    s.applyDec (d, .frame f) = ((s.setDec d).pushFrame f).raiseFramePushed := rfl

/-! ## Register writes -/

theorem guardedWrite_of_guard {s : State} (r : Regs) (h : s.cfgGuard = true) :
    s.guardedWrite r = s.busWrite.setRegs r := by simp [State.guardedWrite, h]

theorem guardedWrite_of_no_guard {s : State} (r : Regs) (h : s.cfgGuard = false) : s.guardedWrite r = s.busWrite := by
  simp [State.guardedWrite, h]

theorem startTelegram_of_busy {s : State} (h : s.tx.busy = true) : s.startTelegram = s := by
  simp [State.startTelegram, h]

theorem startTelegram_of_idle {s : State} (h : s.tx.busy = false) : s.startTelegram =
    s.setTx { busy := true, out := true, seg := 0, t0 := s.io.sysNow, word := permP s.regs.txData } := by
  simp [State.startTelegram, h]

/-! ## Synchronisers -/

@[simp] theorem length_shiftIn {α : Type} (x : α) (l : List α) : (shiftIn x l).length = l.length := by
  simp [shiftIn]

theorem shiftIn_zero {α : Type} (x : α) {l : List α} (h : l ≠ []) : (shiftIn x l)[0]? = some x := by
  cases l <;> simp_all [shiftIn, List.dropLast]

theorem shiftIn_succ {α : Type} (x : α) {l : List α} {k : Nat} (h : k + 1 < l.length) :
    (shiftIn x l)[k + 1]? = l[k]? := by
  simp [shiftIn, h]

@[simp] theorem length_stepBitSync (f k v : Bool) (l : List Bool) : (stepBitSync f k v l).length = l.length := by
  simp [stepBitSync]

@[simp] theorem length_stepCountSync (f : Bool) (d v : Nat) (l : List Nat) :
    (stepCountSync f d v l).length = l.length := by
  simp [stepCountSync]

@[simp] theorem length_stepDropSync (f : Bool) (d : Nat) (v : Half) (l : List Half) :
    (stepDropSync f d v l).length = l.length := by
  simp [stepDropSync]

/-! ## The cycle -/

/-- A decoded word runs its operation. -/
theorem runWord_of_decode {w : PortWord} {i : Instr} (h : decode w = .ok i) (s : State) : runWord w s = exec i s := by
  simp [runWord, h]

/-- What the decoder chooses (R121). -/
theorem decAction_cases (s : State) :
    (s.cc.emptyR = true ∧ s.regs.rxEn = false ∧ s.decAction = .hold) ∨
    (s.cc.emptyR = true ∧ s.regs.rxEn = true ∧ s.decAction = .wait) ∨
    (s.cc.emptyR = false ∧ s.cc.buf = [] ∧ s.decAction = .broken) ∨
    (s.cc.emptyR = false ∧ ∃ c rest, s.cc.buf = c :: rest ∧
      ((s.regs.rxEn = false ∧ s.decAction = .drain c) ∨
       (s.regs.rxEn = true ∧ s.wouldEmit c = true ∧ s.fcFull = true ∧ s.decAction = .stall) ∨
       (s.regs.rxEn = true ∧ (s.wouldEmit c = false ∨ s.fcFull = false) ∧ s.decAction = .consume c))) := by
  unfold State.decAction
  cases s.cc.emptyR <;> cases s.regs.rxEn <;> cases hb : s.cc.buf <;>
    simp
  cases State.wouldEmit s _ <;> cases s.fcFull <;> simp

/-- What the receive side does in a `clk_rx` step (R85). -/
theorem rxCycle_cases (s : State) :
    (s.rxEnView = false ∧ rxCycle s = .next s.rxDisabled) ∨
    (s.rxEnView = true ∧ s.sLvl ≠ s.rx.prevLevel ∧ rxCycle s = runWord s.edgeWord s) ∨
    (s.rxEnView = true ∧ s.sLvl = s.rx.prevLevel ∧ timeoutDue s.regs s.io.rxNow s.rx = true ∧
      rxCycle s = exec .pauseTimeout s) ∨
    (s.rxEnView = true ∧ s.sLvl = s.rx.prevLevel ∧ timeoutDue s.regs s.io.rxNow s.rx = false ∧
      rxCycle s = .next (s.writeSide none)) := by
  unfold rxCycle
  cases s.rxEnView <;> cases s.sLvl <;> cases s.rx.prevLevel <;>
    cases timeoutDue s.regs s.io.rxNow s.rx <;> simp

theorem sysCycle_eq_next {s0 s t : State} : sysCycle s0 s = .next t ↔
    ∃ a b, hostCycle s = .next a ∧ decoderCycle s0.decAction a = .next b ∧ txCycle s0.tx.busy b = .next t := by
  simp only [sysCycle, andThen_eq_next]
  constructor
  · rintro ⟨a, ha, b, hb, ht⟩
    exact ⟨a, b, ha, hb, ht⟩
  · rintro ⟨a, b, ha, hb, ht⟩
    exact ⟨a, ha, b, hb, ht⟩

theorem tickOps_eq_next {s0 t : State} {k : Tick} : tickOps s0 k = .next t ↔
    ∃ a b, (if k.cons.isSome then consCycle s0 else .next s0) = .next a ∧
      (if k.rx.isSome then rxCycle a else .next a) = .next b ∧
      (if k.sys.isSome then sysCycle s0 b else .next b) = .next t := by
  simp only [tickOps, andThen_eq_next]
  constructor
  · rintro ⟨a, ha, b, hb, ht⟩
    exact ⟨a, b, ha, hb, ht⟩
  · rintro ⟨a, b, ha, hb, ht⟩
    exact ⟨a, ha, b, hb, ht⟩

theorem clockStep_eq_next {s t : State} {k : Tick} : clockStep s k = .next t ↔
    ∃ u, tickOps (s.latch k) k = .next u ∧
      t = (s.latch k).settle ((s.latch k).shiftAll u k) k.rx.isSome k.sys.isSome k.cons.isSome := by
  simp only [clockStep, andThen_eq_next, Host.Outcome.next.injEq]
  constructor
  · rintro ⟨u, hu, ht⟩
    exact ⟨u, hu, ht.symm⟩
  · rintro ⟨u, hu, ht⟩
    exact ⟨u, hu, ht.symm⟩

/-- Everything one move can do when it gives a next state (R5, R166). -/
theorem applyMove_cases {m : Move} {s t : State} (h : applyMove m s = .next t) :
    (∃ l, m = .line l ∧ t = s.settle (s.setIo { s.io with rxIn := l }) false false false) ∨
    (m = .rst true ∧ t = s.assertRst) ∨
    (m = .rst false ∧ t = s.setIo { s.io with rst := false }) ∨
    (∃ k, m = .clock k ∧ s.io.rst = true ∧ t = s) ∨
    (∃ k, m = .clock k ∧ s.io.rst = false ∧ clockStep s k = .next t) := by
  match m, h with
  | .line l, h => exact .inl ⟨l, rfl, (Host.Outcome.next.inj h).symm⟩
  | .rst true, h => exact .inr (.inl ⟨rfl, (Host.Outcome.next.inj h).symm⟩)
  | .rst false, h => exact .inr (.inr (.inl ⟨rfl, (Host.Outcome.next.inj h).symm⟩))
  | .clock k, h =>
    cases hr : s.io.rst with
    | true => exact .inr (.inr (.inr (.inl ⟨k, rfl, rfl, by simpa [applyMove, hr, eq_comm] using h⟩)))
    | false => exact .inr (.inr (.inr (.inr ⟨k, rfl, rfl, by simpa [applyMove, hr] using h⟩)))

/-- One step is one move of the environment. -/
theorem step_eq (s : State) : step s = applyMove s.takeMove.1 s.takeMove.2 := rfl

theorem takeMove_of_moves {s : State} {m : Move} {rest : List Move} (h : s.moves = m :: rest) :
    s.takeMove = (m, s.setMoves rest) := by simp [State.takeMove, h]

/-- A placed clock tick runs the domains' operations, then the synchronisers. -/
theorem step_clock {s : State} {k : Tick} {rest : List Move} (hm : s.moves = .clock k :: rest)
    (hr : s.io.rst = false) : step s = clockStep (s.setMoves rest) k := by
  simp [step_eq, takeMove_of_moves hm, applyMove, hr]

/-- No operation touches the parameters, the views, the fairness record or the environment's moves. -/
theorem exec_keeps {i : Instr} {s t : State} (h : exec i s = .next t) :
    t.params = s.params ∧ t.views = s.views ∧ t.fair = s.fair ∧ t.moves = s.moves ∧ t.freeIdx = s.freeIdx := by
  have hc := readCond_cases s
  have hf := readFrame_cases s
  cases i with
  | condPause =>
    simp only [exec, execCondPause] at h
    split at h <;> cases h <;> simp
  | txSegment =>
    simp only [exec, execTxSegment] at h
    (repeat' split at h) <;> cases h <;> simp
  | chPush e =>
    cases e <;> simp only [exec, execChPush] at h <;> split at h <;> cases h <;> simp
  | chPop ch =>
    cases ch with
    | cc =>
      simp only [exec, execChPop] at h
      rcases hc with ⟨-, hc⟩ | ⟨-, -, hc⟩ | ⟨-, c, r, -, hc⟩ <;> rw [hc] at h <;> cases h <;> simp
    | fc =>
      simp only [exec, execChPop] at h
      rcases hf with ⟨-, hf⟩ | ⟨-, -, hf⟩ | ⟨-, c, r, -, hf⟩ <;> rw [hf] at h <;> cases h <;> simp
  | framePop =>
    simp only [exec, execFramePop] at h
    rcases hf with ⟨-, hf⟩ | ⟨-, -, hf⟩ | ⟨-, c, r, -, hf⟩ <;> rw [hf] at h <;> cases h <;> simp
  | _ => cases h; simp

end Sys2Proof.Machine
end

