-- ==== Sys2Proof/Laws/PerInstr.lean ====
section
/-! SUPPORT. The family WordPort: the word of an operation is carried by the port that the table's format names
(30_encoding.md R65, R79). -/

namespace Sys2Proof.Laws

/-- The port of an operation's format in spec/opcode_table.json; none for the format `internal`. -/
def formatPort (i : Instr) : Option Port :=
  match i with
  | .edgeRise _ | .edgeFall _ => some .edge
  | .pauseTimeout | .txSegment | .chPush _ | .chPop _ => none
  | .condMark | .condSpace | .condSync | .condPause | .condBadEdgeAfterStart | .condBadEdgeAfterHigh
  | .condBadEdgeAfterLow | .condBadHighDuration | .condBadLowDuration | .condOverflow | .condReserved101x _
  | .condReserved11xx _ => some .cond
  | .framePop => some .cons
  | .rdId _ | .wrId _ _ | .rdCtrl _ | .wrCtrl _ _ | .rdStatus _ | .wrStatus _ _ | .rdIrqStatus _ | .wrIrqStatus _ _
  | .rdIrqEnable _ | .wrIrqEnable _ _ | .rdTiming0 _ | .wrTiming0 _ _ | .rdTiming1 _ | .wrTiming1 _ _ | .rdRxcfg _
  | .wrRxcfg _ _ | .rdTxData _ | .wrTxData _ _ | .rdCondDropCnt _ | .wrCondDropCnt _ _ | .rdDecStats _
  | .wrDecStats _ _ | .txStart _ _ | .rdUnmapped2c _ | .rdUnmapped30to3c _ | .wrUnmapped2c _ _
  | .wrUnmapped30to3c _ _ => some .bus

/-- The encoder puts the operation on the port of its format. -/
def WordPort.Statement (i : Instr) : Prop := (encode i).map PortWord.port = formatPort i

theorem WordPort.edgeRise (t : Stamp) : WordPort.Statement (.edgeRise t) := rfl
theorem WordPort.edgeFall (t : Stamp) : WordPort.Statement (.edgeFall t) := rfl
theorem WordPort.pauseTimeout : WordPort.Statement (.pauseTimeout) := rfl
theorem WordPort.condMark : WordPort.Statement (.condMark) := rfl
theorem WordPort.condSpace : WordPort.Statement (.condSpace) := rfl
theorem WordPort.condSync : WordPort.Statement (.condSync) := rfl
theorem WordPort.condPause : WordPort.Statement (.condPause) := rfl
theorem WordPort.condBadEdgeAfterStart : WordPort.Statement (.condBadEdgeAfterStart) := rfl
theorem WordPort.condBadEdgeAfterHigh : WordPort.Statement (.condBadEdgeAfterHigh) := rfl
theorem WordPort.condBadEdgeAfterLow : WordPort.Statement (.condBadEdgeAfterLow) := rfl
theorem WordPort.condBadHighDuration : WordPort.Statement (.condBadHighDuration) := rfl
theorem WordPort.condBadLowDuration : WordPort.Statement (.condBadLowDuration) := rfl
theorem WordPort.condOverflow : WordPort.Statement (.condOverflow) := rfl
theorem WordPort.condReserved101x (x : BitVec 1) : WordPort.Statement (.condReserved101x x) := rfl
theorem WordPort.condReserved11xx (x : BitVec 2) : WordPort.Statement (.condReserved11xx x) := rfl
theorem WordPort.rdId (x : BitVec 2) : WordPort.Statement (.rdId x) := rfl
theorem WordPort.wrId (x : BitVec 2) (v : Word) : WordPort.Statement (.wrId x v) := rfl
theorem WordPort.rdCtrl (x : BitVec 2) : WordPort.Statement (.rdCtrl x) := rfl
theorem WordPort.wrCtrl (x : BitVec 2) (v : Word) : WordPort.Statement (.wrCtrl x v) := rfl
theorem WordPort.rdStatus (x : BitVec 2) : WordPort.Statement (.rdStatus x) := rfl
theorem WordPort.wrStatus (x : BitVec 2) (v : Word) : WordPort.Statement (.wrStatus x v) := rfl
theorem WordPort.rdIrqStatus (x : BitVec 2) : WordPort.Statement (.rdIrqStatus x) := rfl
theorem WordPort.wrIrqStatus (x : BitVec 2) (v : Word) : WordPort.Statement (.wrIrqStatus x v) := rfl
theorem WordPort.rdIrqEnable (x : BitVec 2) : WordPort.Statement (.rdIrqEnable x) := rfl
theorem WordPort.wrIrqEnable (x : BitVec 2) (v : Word) : WordPort.Statement (.wrIrqEnable x v) := rfl
theorem WordPort.rdTiming0 (x : BitVec 2) : WordPort.Statement (.rdTiming0 x) := rfl
theorem WordPort.wrTiming0 (x : BitVec 2) (v : Word) : WordPort.Statement (.wrTiming0 x v) := rfl
theorem WordPort.rdTiming1 (x : BitVec 2) : WordPort.Statement (.rdTiming1 x) := rfl
theorem WordPort.wrTiming1 (x : BitVec 2) (v : Word) : WordPort.Statement (.wrTiming1 x v) := rfl
theorem WordPort.rdRxcfg (x : BitVec 2) : WordPort.Statement (.rdRxcfg x) := rfl
theorem WordPort.wrRxcfg (x : BitVec 2) (v : Word) : WordPort.Statement (.wrRxcfg x v) := rfl
theorem WordPort.rdTxData (x : BitVec 2) : WordPort.Statement (.rdTxData x) := rfl
theorem WordPort.wrTxData (x : BitVec 2) (v : Word) : WordPort.Statement (.wrTxData x v) := rfl
theorem WordPort.rdCondDropCnt (x : BitVec 2) : WordPort.Statement (.rdCondDropCnt x) := rfl
theorem WordPort.wrCondDropCnt (x : BitVec 2) (v : Word) : WordPort.Statement (.wrCondDropCnt x v) := rfl
theorem WordPort.rdDecStats (x : BitVec 2) : WordPort.Statement (.rdDecStats x) := rfl
theorem WordPort.wrDecStats (x : BitVec 2) (v : Word) : WordPort.Statement (.wrDecStats x v) := rfl
theorem WordPort.txStart (x : BitVec 2) (v : Word) : WordPort.Statement (.txStart x v) := rfl
theorem WordPort.rdUnmapped2c (x : BitVec 2) : WordPort.Statement (.rdUnmapped2c x) := rfl
theorem WordPort.rdUnmapped30to3c (x : BitVec 4) : WordPort.Statement (.rdUnmapped30to3c x) := rfl
theorem WordPort.wrUnmapped2c (x : BitVec 2) (v : Word) : WordPort.Statement (.wrUnmapped2c x v) := rfl
theorem WordPort.wrUnmapped30to3c (x : BitVec 4) (v : Word) : WordPort.Statement (.wrUnmapped30to3c x v) := rfl
theorem WordPort.framePop : WordPort.Statement (.framePop) := rfl
theorem WordPort.txSegment : WordPort.Statement (.txSegment) := rfl
theorem WordPort.chPush (e : ChanEntry) : WordPort.Statement (.chPush e) := rfl
theorem WordPort.chPop (ch : ChanId) : WordPort.Statement (.chPop ch) := rfl

end Sys2Proof.Laws
end

