-- ==== Sys2Proof/Laws/Runs.lean ====
section
/-! SUPPORT. Runs of several steps: which domains a move steps, one step of a run, a source that stays unchanged through it,
the fairness record, and the segment offsets from one segment to the next. -/

namespace Sys2Proof.Machine

/-! ## Which domains a move steps -/

@[simp] theorem rxEdge_clock (k : Tick) : Move.rxEdge (.clock k) = k.rx.isSome := rfl
@[simp] theorem rxEdge_line (l : Bool) : Move.rxEdge (.line l) = false := rfl
@[simp] theorem rxEdge_rst (l : Bool) : Move.rxEdge (.rst l) = false := rfl
@[simp] theorem sysEdge_clock (k : Tick) : Move.sysEdge (.clock k) = k.sys.isSome := rfl
@[simp] theorem sysEdge_line (l : Bool) : Move.sysEdge (.line l) = false := rfl
@[simp] theorem sysEdge_rst (l : Bool) : Move.sysEdge (.rst l) = false := rfl
@[simp] theorem consEdge_clock (k : Tick) : Move.consEdge (.clock k) = k.cons.isSome := rfl
@[simp] theorem consEdge_line (l : Bool) : Move.consEdge (.line l) = false := rfl
@[simp] theorem consEdge_rst (l : Bool) : Move.consEdge (.rst l) = false := rfl

/-! ## Runs -/

/-- A run's first step and the rest of it. -/
theorem run_succ_of_step {n : Nat} {s t : State} (h : step s = .next t) :
    Host.Core.run Sys2Proof.core (n + 1) s = Host.Core.run Sys2Proof.core n t := by
  have h' : Sys2Proof.core.step s = .next t := h
  simp only [Host.Core.run, h']

/-- A source that stays unchanged is unchanged by the first step, and stays so in the rest of the run. -/
theorem StaysDuring.of_step {α : Type} {s t : State} {n : Nat} {src : State → α} (h : StaysDuring s (n + 1) src)
    (hs : step s = .next t) : src t = src s ∧ StaysDuring t n src := by
  have ht : src t = src s := h 1 t (by omega) (run_succ_of_step hs)
  exact ⟨ht, fun j u hj hu => (h (j + 1) u (by omega) ((run_succ_of_step hs).trans hu)).trans ht.symm⟩

/-! ## Fairness -/

/-- The record of a source: it did not move, and its domain made a step or had it settled before. -/
theorem settledAfter_eq_true {viewed was unchanged : Bool} :
    settledAfter viewed was unchanged = true ↔ unchanged = true ∧ (viewed = true ∨ was = true) := by
  cases viewed <;> cases was <;> cases unchanged <;> simp [settledAfter]

/-! ## Segment offsets -/

@[simp] theorem segOffset_zero (w : Word) : segOffset w 0 = 0 := rfl

/-- A segment starts where the one before it ends. -/
theorem segOffset_succ (w : Word) (k : Nat) : segOffset w (k + 1) = segOffset w k + segMul w k := by
  simp [segOffset, List.range_succ]

end Sys2Proof.Machine
end

