-- ==== Sys2Proof/Tests/Slice0.lean ====
section
/-! SUPPORT. Tests: ill-formed terms that WellFormed refuses, words written out from the spec's encodings, single
operations on the vectors of 95_test_vectors.md, single steps, and one witness for the hypotheses of each statement. -/

namespace Sys2Proof.Tests
open Sys2Proof Sys2Proof.Machine

/-! ## Helpers -/

/-- The outcome is a next state that passes `p`. -/
def holds (o : Result) (p : State → Bool) : Bool :=
  match o with
  | .next s => p s
  | .fault _ => false
  | .refused _ => false

/-- The next state of a step, or the state itself. -/
def after (s : State) : State :=
  match step s with
  | .next t => t
  | .fault _ => s
  | .refused _ => s

/-- Reset with the receive side enabled and the classifier in a given state (95_test_vectors.md 2.2). -/
def rxAt (det : DetState) (prev : Bool) (rise fall : Stamp) : State :=
  State.reset.setRx { State.reset.rx with
    enSync := [true, true], prevLevel := prev, det := det, tRise := rise, tFall := fall }

/-- Reset with the decoder in a given state (95_test_vectors.md 2.4). -/
def decAt (d : DecState) (acc : Word) (cnt : BitVec 6) : State :=
  State.reset.setDec { state := d, acc := acc, cnt := cnt }

/-- The frame channel full in the writer's view (V-DEC28). -/
def withFcFull (s : State) : State := s.setFc { s.fc with buf := [1, 2, 3, 4], wcnt := 4, wsync := [4, 4] }

/-- The condition channel with one word that its reader sees. -/
def withCond (s : State) (c : Code) : State := s.setCc { s.cc with buf := [c], wcnt := 1, wsync := [1, 1] }

/-- The receive path enabled. -/
def enabled (s : State) : State := s.setRegs { s.regs with rxEn := true }

/-- Reset with a telegram being sent. -/
def txAt (seg : BitVec 8) (t0 now : Stamp) : State :=
  (State.reset.setTx { busy := true, out := segLevel seg.toNat, seg := seg, t0 := t0, word := 0xA0000000#32 }).setIo
    { State.reset.io with sysNow := now }

/-- The state with one `clk_sys` edge next. -/
def sysNext (s : State) (now : Stamp) (bus : Option BusAccess) : State :=
  s.setMoves [.clock (sysTick { s.plainSysEdge bus with now := now })]

/-- The state with one `clk_rx` edge next. -/
def rxNext (s : State) (now : Stamp) : State := s.setMoves [.clock (rxTick (s.plainRxEdge now))]

/-- A host write. -/
def wrAcc (off : BitVec 6) (v : Word) : Option BusAccess := some { we := true, off := off, wdata := v }

/-! ## WellFormed: each check refuses an ill-formed term -/

theorem test_wf_refuses_wrCtrl_with_start_bit : wellFormed (.wrCtrl 0 2) = false := by decide
theorem test_wf_refuses_txStart_without_start_bit : wellFormed (.txStart 0 1) = false := by decide
theorem test_wf_accepts_both_right_ways : (wellFormed (.wrCtrl 0 1) && wellFormed (.txStart 0 3)) = true := by decide

/-! ## Decode: a word written out for every operation that has an encoding (R66, R67, R77, spec/opcode_table.json) -/

theorem test_decode_edgeRise : decode (.edge 0x100000000000003E8#65) = .ok (.edgeRise 1000) := by decide
theorem test_decode_edgeFall : decode (.edge 0x000000000000004E2#65) = .ok (.edgeFall 1250) := by decide
theorem test_decode_condMark : decode (.cond 0b0000#4) = .ok .condMark := by decide
theorem test_decode_condSpace : decode (.cond 0b0001#4) = .ok .condSpace := by decide
theorem test_decode_condSync : decode (.cond 0b0010#4) = .ok .condSync := by decide
theorem test_decode_condPause : decode (.cond 0b0011#4) = .ok .condPause := by decide
theorem test_decode_condBadEdgeAfterStart : decode (.cond 0b0100#4) = .ok .condBadEdgeAfterStart := by decide
theorem test_decode_condBadEdgeAfterHigh : decode (.cond 0b0101#4) = .ok .condBadEdgeAfterHigh := by decide
theorem test_decode_condBadEdgeAfterLow : decode (.cond 0b0110#4) = .ok .condBadEdgeAfterLow := by decide
theorem test_decode_condBadHighDuration : decode (.cond 0b0111#4) = .ok .condBadHighDuration := by decide
theorem test_decode_condBadLowDuration : decode (.cond 0b1000#4) = .ok .condBadLowDuration := by decide
theorem test_decode_condOverflow : decode (.cond 0b1001#4) = .ok .condOverflow := by decide
theorem test_decode_condReserved101x : decode (.cond 0b1011#4) = .ok (.condReserved101x 1) := by decide
theorem test_decode_condReserved11xx : decode (.cond 0b1110#4) = .ok (.condReserved11xx 2) := by decide
theorem test_decode_rdId : decode (.bus 0b0000000#7 0) = .ok (.rdId 0) := by decide
theorem test_decode_wrId : decode (.bus 0b1000000#7 9) = .ok (.wrId 0 9) := by decide
theorem test_decode_rdCtrl : decode (.bus 0b0000101#7 0) = .ok (.rdCtrl 1) := by decide
theorem test_decode_wrCtrl : decode (.bus 0b1000100#7 1) = .ok (.wrCtrl 0 1) := by decide
theorem test_decode_rdStatus : decode (.bus 0b0001011#7 0) = .ok (.rdStatus 3) := by decide
theorem test_decode_wrStatus : decode (.bus 0b1001000#7 9) = .ok (.wrStatus 0 9) := by decide
theorem test_decode_rdIrqStatus : decode (.bus 0b0001100#7 0) = .ok (.rdIrqStatus 0) := by decide
theorem test_decode_wrIrqStatus : decode (.bus 0b1001100#7 7) = .ok (.wrIrqStatus 0 7) := by decide
theorem test_decode_rdIrqEnable : decode (.bus 0b0010000#7 0) = .ok (.rdIrqEnable 0) := by decide
theorem test_decode_wrIrqEnable : decode (.bus 0b1010000#7 4) = .ok (.wrIrqEnable 0 4) := by decide
theorem test_decode_rdTiming0 : decode (.bus 0b0010100#7 0) = .ok (.rdTiming0 0) := by decide
theorem test_decode_wrTiming0 : decode (.bus 0b1010100#7 9) = .ok (.wrTiming0 0 9) := by decide
theorem test_decode_rdTiming1 : decode (.bus 0b0011000#7 0) = .ok (.rdTiming1 0) := by decide
theorem test_decode_wrTiming1 : decode (.bus 0b1011000#7 9) = .ok (.wrTiming1 0 9) := by decide
theorem test_decode_rdRxcfg : decode (.bus 0b0011100#7 0) = .ok (.rdRxcfg 0) := by decide
theorem test_decode_wrRxcfg : decode (.bus 0b1011100#7 1) = .ok (.wrRxcfg 0 1) := by decide
theorem test_decode_rdTxData : decode (.bus 0b0100000#7 0) = .ok (.rdTxData 0) := by decide
theorem test_decode_wrTxData : decode (.bus 0b1100010#7 9) = .ok (.wrTxData 2 9) := by decide
theorem test_decode_rdCondDropCnt : decode (.bus 0b0100100#7 0) = .ok (.rdCondDropCnt 0) := by decide
theorem test_decode_wrCondDropCnt : decode (.bus 0b1100100#7 9) = .ok (.wrCondDropCnt 0 9) := by decide
theorem test_decode_rdDecStats : decode (.bus 0b0101000#7 0) = .ok (.rdDecStats 0) := by decide
theorem test_decode_wrDecStats : decode (.bus 0b1101000#7 0) = .ok (.wrDecStats 0 0) := by decide
theorem test_decode_txStart : decode (.bus 0b1000100#7 2) = .ok (.txStart 0 2) := by decide
theorem test_decode_rdUnmapped2c : decode (.bus 0b0101100#7 0) = .ok (.rdUnmapped2c 0) := by decide
theorem test_decode_wrUnmapped2c : decode (.bus 0b1101111#7 9) = .ok (.wrUnmapped2c 3 9) := by decide
theorem test_decode_rdUnmapped30to3c : decode (.bus 0b0111100#7 0) = .ok (.rdUnmapped30to3c 12) := by decide
theorem test_decode_wrUnmapped30to3c : decode (.bus 0b1110000#7 9) = .ok (.wrUnmapped30to3c 0 9) := by decide
theorem test_decode_framePop : decode (.cons true) = .ok .framePop := by decide
theorem test_decode_no_request : decode (.cons false) = .error .noConsumerRequest := by decide

/-- Table numbers: an EDGE row of 65 bits, a COND row, a BUS read, a BUS write with its data above the first byte. -/
theorem test_table_words :
    decodeTableWord 72 0x10000000000000000 = some (.edgeRise 0) ∧ decodeTableWord 8 9 = some .condOverflow ∧
    decodeTableWord 8 0x20 = some (.rdTxData 0) ∧ decodeTableWord 40 0x244 = some (.txStart 0 2) := by decide

/-! ## The classifier -/

/-- V-DET1. -/
theorem test_edgeRise_starts_high : holds (exec (.edgeRise 1000) (rxAt .waitBitStart false 0 0)) (fun s =>
    s.rx.det == .waitHighToLow && s.rx.tRise == 1000 && s.rx.prevLevel && s.cc.buf == []) = true := by decide
/-- V-DET6. -/
theorem test_edgeRise_sync : holds (exec (.edgeRise 3750) (rxAt .waitLowDecision false 1000 1250)) (fun s =>
    s.rx.det == .waitHighToLow && s.rx.tRise == 3750 && s.rx.tFall == 1250 && s.cc.buf == [0b0010#4]) = true := by decide
/-- V-DET17: across the wrap of the time base. -/
theorem test_edgeFall_wraps : holds (exec (.edgeFall 150) (rxAt .waitHighToLow true (0#64 - 100) 0)) (fun s =>
    s.rx.det == .waitLowDecision && s.rx.tFall == 150 && s.cc.buf == []) = true := by decide
/-- V-DET4. -/
theorem test_edgeFall_short_high : holds (exec (.edgeFall 1099) (rxAt .waitHighToLow true 1000 0)) (fun s =>
    s.rx.det == .waitBitStart && s.rx.tFall == 0 && s.cc.buf == [0b0111#4]) = true := by decide
/-- V-DET11. -/
theorem test_timeout_not_yet :
    holds (exec .pauseTimeout ((rxAt .waitLowDecision false 1000 68000).setIo { State.reset.io with rxNow := 77849 }))
      (fun s => s.rx.det == .waitLowDecision && s.cc.buf == []) = true := by decide
/-- V-DET12. -/
theorem test_timeout_due :
    holds (exec .pauseTimeout ((rxAt .waitLowDecision false 1000 68000).setIo { State.reset.io with rxNow := 77850 }))
      (fun s => s.rx.det == .waitBitStart && s.rx.tFall == 68000 && s.cc.buf == [0b0011#4]) = true := by decide

/-- 95_test_vectors.md 1.7, the bounds of the windows at the reset configuration. -/
theorem test_classify_bounds : ([99, 100, 500, 501, 1099, 1100, 1500, 1501, 2349, 2350, 2750, 2751, 9849, 9850].map
    (classify Regs.reset)) = [8, 0, 0, 8, 8, 1, 1, 8, 8, 2, 2, 8, 8, 3] := by decide
/-- The E values of 95_test_vectors.md 2.2. -/
theorem test_timeoutE : timeoutE Regs.reset = 9850 ∧ timeoutE { Regs.reset with pauseGuardUs := 20000 } = 2751 ∧
    timeoutE { Regs.reset with tUs := 0, tolMinusUs := 0, tolPlusUs := 0, pauseGuardUs := 0 } = 1 := by decide

/-- V-CH5: a marker uses the step's push and the new condition is dropped. -/
theorem test_marker_goes_first :
    (let s := (State.reset.setRx { State.reset.rx with enSync := [true, true], ovfPending := true, dropCnt := 1 }).setCc
        { State.reset.cc with wcnt := 16, rsync := [1, 1] }
     let t := s.writeSide (some 0b0001#4)
     t.cc.buf == [0b1001#4] && t.cc.wcnt == 17 && t.rx.dropCnt == 2 && t.rx.ovfPending) = true := by decide

/-! ## The decoder -/

/-- V-DEC21 and V-DEC18. -/
theorem test_mark : holds (exec .condMark (decAt .waitMark 1 1)) (fun s =>
    s.dec == { state := .waitBitStart, acc := 1, cnt := 2 }) = true := by decide
theorem test_mark_violation : holds (exec .condMark (decAt .waitSpace 0 0)) (fun s =>
    s.dec == Dec.reset && s.regs.violationCnt == 1) = true := by decide
/-- V-DEC17 and V-DEC24. -/
theorem test_space : holds (exec .condSpace (decAt .waitSpace 5 3)) (fun s =>
    s.dec == { state := .waitBitStart, acc := 0xD, cnt := 4 }) = true := by decide
theorem test_space_past_32 : holds (exec .condSpace (decAt .waitSpace 0xFFFFFFFF 32)) (fun s =>
    s.dec == { state := .waitBitStart, acc := 0xFFFFFFFF, cnt := 33 }) = true := by decide
/-- V-DEC7. -/
theorem test_sync : holds (exec .condSync (decAt .waitBitStart 0x1F 5)) (fun s =>
    s.dec == { state := .waitBitStart, acc := 0, cnt := 0 } && s.regs.violationCnt == 1) = true := by decide
/-- V-DEC11 and V-DEC13. -/
theorem test_pause_emits : holds (exec .condPause (decAt .waitBitStart 0xA0000000 32)) (fun s =>
    s.dec == Dec.reset && s.fc.buf == [0x50000000#32] && s.regs.framePushed) = true := by decide
theorem test_pause_discards : holds (exec .condPause (decAt .waitBitStart 0xFFFFFFFF 33)) (fun s =>
    s.dec == Dec.reset && s.fc.buf == [] && s.regs.discardCnt == 1) = true := by decide
/-- V-DEC23 and V-DEC6. -/
theorem test_overflow : holds (exec .condOverflow (decAt .waitMark 0 4)) (fun s =>
    s.dec == Dec.reset && s.regs.violationCnt == 1 && s.regs.condOvf) = true := by decide
theorem test_overflow_in_waitSync : holds (exec .condOverflow (decAt .waitSync 0 0)) (fun s =>
    s.regs.violationCnt == 0 && s.regs.condOvf) = true := by decide
/-- V-DEC15, V-DEC16 and the other codes of R119. -/
theorem test_other_codes : ([Instr.condBadEdgeAfterStart, .condBadEdgeAfterHigh, .condBadEdgeAfterLow,
    .condBadHighDuration, .condBadLowDuration, .condReserved101x 0, .condReserved11xx 0].all fun i =>
      holds (exec i (decAt .waitBitStart 3 2)) (fun s => s.dec == Dec.reset && s.regs.violationCnt == 1)) = true := by
  decide

/-! ## The host registers (95_test_vectors.md 2.6) -/

/-- What each read shows right after reset (R167). -/
theorem test_reads_after_reset : ([Instr.rdId 0, .rdCtrl 0, .rdStatus 0, .rdIrqStatus 0, .rdIrqEnable 0, .rdTiming0 0,
    .rdTiming1 0, .rdRxcfg 0, .rdTxData 0, .rdCondDropCnt 0, .rdDecStats 0, .rdUnmapped2c 0, .rdUnmapped30to3c 0].map
      fun i => match exec i State.reset with
        | .next s => s.io.busRdata.toNat
        | .fault _ => 999
        | .refused _ => 999) =
    [0x4E580001, 0, 0x10, 0, 0, 0x009600FA, 0x00FA0096, 1, 0, 0, 0, 0, 0] := by decide
/-- R137. -/
theorem test_wrCtrl_enables : holds (exec (.wrCtrl 0 0xFFFFFFFD) State.reset) (fun s => s.regs.rxEn && !s.tx.busy) = true := by
  decide
/-- V-TX1, and RX_EN cleared by the same write. -/
theorem test_txStart : holds (exec (.txStart 0 2) (((enabled State.reset).setRegs
    { (enabled State.reset).regs with txData := 0x50000000 }).setIo { State.reset.io with sysNow := 1000 })) (fun s =>
      s.tx == { busy := true, out := true, seg := 0, t0 := 1000, word := 0xA0000000 } && !s.regs.rxEn) = true := by decide
/-- V-TX7. -/
theorem test_txStart_while_busy : holds (exec (.txStart 0 2) (txAt 40 0 0)) (fun s => s.tx == (txAt 40 0 0).tx) = true := by
  decide
/-- R139's worked example. -/
theorem test_wrIrqStatus : holds (exec (.wrIrqStatus 0 1) (State.reset.setRegs
    { Regs.reset with txDone := true, framePushed := true })) (fun s => s.irqStatusWord == 4) = true := by decide
/-- R140's worked example. -/
theorem test_wrIrqEnable : holds (exec (.wrIrqEnable 0 0xFF) State.reset) (fun s => s.irqEnableWord == 7) = true := by decide
/-- The test-rig margins of R142, and T = 100 with guard 150. -/
theorem test_guarded_writes :
    (holds (exec (.wrTiming0 0 0x00960064) State.reset) (fun s => s.regs.tUs == 100 && s.regs.pauseGuardUs == 150) &&
    holds (exec (.wrTiming1 0 0x00190020) State.reset) (fun s => s.regs.tolMinusUs == 32 && s.regs.tolPlusUs == 25) &&
    holds (exec (.wrRxcfg 0 0) State.reset) (fun s => !s.regs.pauseTimeoutEn)) = true := by decide
/-- R135: the guard fails for each of its three terms. -/
theorem test_guard_refuses : ([enabled State.reset, withCond State.reset 0, txAt 0 0 0].all fun s =>
    holds (exec (.wrTiming0 0 0) s) (fun t => t.regs.tUs == 250)) = true := by decide
theorem test_wrTxData : holds (exec (.wrTxData 0 0xFA00A55A) State.reset) (fun s => s.regs.txData == 0xFA00A55A) = true := by
  decide
/-- R146's worked example. -/
theorem test_wrDecStats : holds (exec (.wrDecStats 0 0) (State.reset.setRegs
    { Regs.reset with discardCnt := 1, violationCnt := 2 })) (fun s => s.decStatsWord == 0) = true := by decide
/-- R152: a write to a read-only or unmapped offset leaves no trace. -/
theorem test_ignored_writes : ([Instr.wrId 0 9, .wrStatus 0 9, .wrCondDropCnt 0 9, .wrUnmapped2c 0 9,
    .wrUnmapped30to3c 0 9].all fun i => holds (exec i State.reset) (fun s => s == State.reset)) = true := by decide

/-! ## The channels and the transmitter -/

/-- V-CH1 and V-CH2. -/
theorem test_chPush : holds (exec (.chPush (.cc 2)) (State.reset.setCc
    { State.reset.cc with wcnt := 5, rcnt := 5, rsync := [5, 5] })) (fun s => s.cc.buf == [2#4] && s.cc.wcnt == 6) = true := by
  decide
theorem test_chPush_full : exec (.chPush (.fc 2)) (withFcFull State.reset) = .fault (.pushWhileFull .fc) := by rfl
/-- V-CH11. -/
theorem test_chPop : holds (exec (.chPop .cc) (State.reset.setCc
    { State.reset.cc with buf := [2, 1], wcnt := 7, rcnt := 5, wsync := [7, 7] })) (fun s =>
      s.cc.buf == [1#4] && s.cc.rcnt == 6 && s.io.condPopped == some 2) = true := by decide
/-- V-CH13 and V-CH14. -/
theorem test_framePop : holds (exec .framePop (State.reset.setFc
    { State.reset.fc with buf := [0xFA00A55A], wcnt := 1, wsync := [1, 1] })) (fun s =>
      s.io.framePopped == some 0xFA00A55A && !s.frameValid && s.frameData == 0) = true := by decide
theorem test_framePop_empty : exec .framePop State.reset = .next State.reset := by rfl
/-- V-TX4: late by 10, the schedule is kept. -/
theorem test_txSegment_late : holds (exec .txSegment (txAt 1 1250 3760)) (fun s =>
    s.tx.seg == 2 && s.tx.t0 == 3750 && s.tx.out) = true := by decide
/-- V-TX6. -/
theorem test_txSegment_end : holds (exec .txSegment (txAt 131 68000 78000)) (fun s =>
    s.tx == { busy := false, out := false, seg := 0, t0 := 78000, word := 0xA0000000 } && s.regs.txDone) = true := by decide
/-- V-ENC1, V-ENC2 and V-ENC4. -/
theorem test_permP : permP 0xFA00A55A = 0xFA00A55A ∧ permP 0x50000000 = 0xA0000000 ∧ permP 0x12345678 = 0x22345678 := by
  decide
/-- V-ENC6, and the fields of V-ENC7; the word that V-ENC7 prints for them has bit 26 set (assumption 16). -/
theorem test_frame_fields : stationId 0xF200A55A = 0x200A55A ∧ group 0xF200A55A = false ∧ frameState 0xF200A55A = false ∧
    channel 0xF200A55A = 3 ∧ unit 0xF200A55A = 3 ∧ frameWord 1 2 true false 1 = 0x68000001 := by decide

/-! ## Single steps -/

/-- Words placed where the next step reads them. -/
theorem test_fetch_edge : holds (step (State.reset.withFetchWord 72 0x103E8)) (fun s =>
    s.io.emitted == some codeBadEdgeAfterStart && s.io.rxNow == 0x103E8) = true := by decide
theorem test_fetch_cond : holds (step (State.reset.withFetchWord 8 2)) (fun s => s.dec.state == .waitBitStart) = true := by
  decide
theorem test_fetch_bus : holds (step (State.reset.withFetchWord 40 0x950)) (fun s => s.regs.irqEnable == 1) = true := by decide
/-- V-DEC28: the stall. -/
theorem test_step_stalls : holds (step (sysNext (withCond (withFcFull (enabled (decAt .waitBitStart 0xFA00A55A 32)))
    codePause) 0 none)) (fun s => s.dec.cnt == 32 && s.cc.buf == [codePause] && s.fc.wcnt == 4) = true := by decide
/-- V-DEC31: the drain reports an OVERFLOW marker and counts nothing. -/
theorem test_step_drains : holds (step (sysNext (withCond (decAt .waitMark 3 2) codeOverflow) 0 none)) (fun s =>
    s.dec == Dec.reset && s.cc.buf == [] && s.regs.condOvf && s.regs.violationCnt == 0) = true := by decide
/-- V-TX9: the last boundary and a start in one step. -/
theorem test_step_end_beats_start : holds (step (sysNext (txAt 131 68000 0) 78000 (wrAcc 4 2))) (fun s =>
    !s.tx.busy && s.regs.txDone) = true := by decide
/-- R146: a violation counted in the step of the clear survives as 1. -/
theorem test_step_count_survives_clear :
    holds (step (sysNext (withCond (enabled ((decAt .waitSpace 0 0).setRegs { Regs.reset with violationCnt := 2 })) 0) 0
      (wrAcc 0x28 0))) (fun s => s.regs.violationCnt == 1) = true := by decide
/-- R166: `rst` resets at once. -/
theorem test_step_rst : holds (step ((txAt 40 0 0).setMoves [.rst true])) (fun s => s.tx == Tx.reset && s.io.rst) = true := by
  decide

/-! ## Witnesses: concrete states and operands that meet the hypotheses of each statement -/

theorem witness_DecodeOfEncodeGivesTheOperation :
    wellFormed (.wrCtrl 1 5) = true ∧ encode (.wrCtrl 1 5) = some (.bus 0b1000101#7 5) := by decide

theorem witness_EncodeOfDecodeGivesTheWord :
    decode (.bus 0b0111111#7 9) = .ok (.rdUnmapped30to3c 15) ∧ decode (.bus 0b1000100#7 2) = .ok (.txStart 0 2) := by decide

/-- Bit positions 0, 25 to 31 and 27, the ends of the ranges; each bit alone is its field's (R69). -/
theorem witness_FrameAndWireWordsAreRelatedByP : (0 < 32 ∧ 31 < 32) ∧ (0 < 26 ∧ 25 < 26) ∧ (0 < 28 ∧ 27 < 28) ∧
    (permP 0x0FFFFFFF).getLsbD 27 = true ∧ frameWord 0 0 false false 0x2000000 = 0x02000000 ∧
    frameWord 0 0 false true 0 = 0x04000000 ∧ frameWord 0 0 true false 0 = 0x08000000 ∧
    frameWord 0 1 false false 0 = 0x10000000 ∧ frameWord 0 2 false false 0 = 0x20000000 ∧
    frameWord 1 0 false false 0 = 0x40000000 ∧ frameWord 2 0 false false 0 = 0x80000000 := by decide

theorem witness_CtrlReadsAndWrites :
    (5#32).getLsbD 1 = false ∧ ((2#32).getLsbD 1 = true ∧ (txAt 40 0 0).tx.busy = true) ∧
    ((3#32).getLsbD 1 = true ∧ State.reset.tx.busy = false) := by decide

theorem witness_StartBeginsATelegram :
    (2#32).getLsbD 1 = true ∧ State.reset.tx.busy = false ∧ (txAt 0 0 0).tx.busy = true ∧
    (Instr.txStart 0 2 ≠ .txSegment ∧ ∃ t, exec (.txStart 0 2) (txAt 0 0 0) = .next t) :=
  ⟨by decide, rfl, rfl, by decide, _, rfl⟩

/-- A step that sets all three bits while the host clears them. -/
def irqClash : State := sysNext (withCond (enabled ((txAt 131 68000 0).setDec
  { state := .waitBitStart, acc := 0, cnt := 32 })) codePause) 78000 (wrAcc 0x0C 7)

theorem witness_IrqStatusSetBeatsClear : ∃ k e a, irqClash.moves = .clock k :: [] ∧ irqClash.io.rst = false ∧
    k.sys = some e ∧ step irqClash = .next (after irqClash) ∧ e.bus = some a ∧ a.we = true ∧ a.off.extractLsb' 2 4 = 3 ∧
    (after irqClash).regs.txDone = true ∧ (after irqClash).regs.framePushed = true :=
  ⟨_, _, _, rfl, rfl, rfl, rfl, rfl, rfl, by decide, by decide, by decide⟩

/-- A step that counts a violation while the host clears the counters. -/
def statsClash : State := sysNext (withCond (enabled (decAt .waitSpace 0 0)) codeMark) 0 (wrAcc 0x28 0)

/-- The two counting cases: a violation with the clear, and a discard without one. -/
theorem witness_DecStatsCountSurvivesTheClear :
    (∃ k e a, statsClash.moves = .clock k :: [] ∧ statsClash.io.rst = false ∧ k.sys = some e ∧
      step statsClash = .next (after statsClash) ∧ e.bus = some a ∧ a.we = true ∧ a.off.extractLsb' 2 4 = 10 ∧
      statsClash.regs.rxEn = true ∧ (after statsClash).cc.rcnt ≠ statsClash.cc.rcnt ∧
      (decEvent (statsClash.cc.buf.headD 0) statsClash.dec).2 = .violation) ∧
    (let s := sysNext (withCond (enabled (decAt .waitBitStart 0 5)) codePause) 0 none
     ∃ k e, s.moves = .clock k :: [] ∧ s.io.rst = false ∧ k.sys = some e ∧ step s = .next (after s) ∧
      s.regs.rxEn = true ∧ (after s).cc.rcnt ≠ s.cc.rcnt ∧ (decEvent (s.cc.buf.headD 0) s.dec).2 = .discard) :=
  ⟨⟨_, _, _, rfl, rfl, rfl, rfl, rfl, rfl, by decide, rfl, by decide, by decide⟩,
    ⟨_, _, rfl, rfl, rfl, rfl, rfl, by decide, by decide⟩⟩

theorem witness_CondDropCntShowsTheView :
    statsClash.takeMove.1 ≠ .rst true ∧ step statsClash = .next (after statsClash) := ⟨by decide, rfl⟩

theorem witness_UnmappedOffsetsReadZero :
    ((0x2C#6).extractLsb' 2 4).toNat = 11 ∧ ((0x2F#6).extractLsb' 2 4).toNat = 11 ∧ ((0x30#6).extractLsb' 2 4).toNat = 12 ∧
    ((0x3F#6).extractLsb' 2 4).toNat = 15 := by decide

/-- A read of STATUS in the next step. -/
def readStep : State := sysNext State.reset 0 (some { we := false, off := 0x08, wdata := 0 })

theorem witness_BusRdataCarriesTheRegister :
    (∃ k e, readStep.moves = .clock k :: [] ∧ readStep.io.rst = false ∧ k.sys = some e ∧
      step readStep = .next (after readStep) ∧ (after readStep).io.busRdata = 0x10) ∧
    (∃ k e, (sysNext State.reset 0 none).moves = .clock k :: [] ∧ k.sys = some e ∧
      step (sysNext State.reset 0 none) = .next (after (sysNext State.reset 0 none))) :=
  ⟨⟨_, _, rfl, rfl, rfl, rfl, by decide⟩, ⟨_, _, rfl, rfl, rfl⟩⟩

theorem witness_EdgeRiseResult : ([DetState.waitBitStart, .waitHighToLow, .waitLowDecision].all fun d =>
    let s := rxAt d false 0 0
    s.rx.prevLevel == false && s.rx.det == d) = true := by decide

theorem witness_EdgeFallResult : ([DetState.waitBitStart, .waitHighToLow, .waitLowDecision].all fun d =>
    let s := rxAt d true 0 0
    s.rx.prevLevel == true && s.rx.det == d) = true ∧
    ([99, 100, 500, 501].map fun d => inwin Regs.reset d 250) = [false, true, true, false] := by decide

theorem witness_DuplicateLevelIsIgnored :
    (rxAt .waitHighToLow true 1000 0).rx.prevLevel = true ∧ (rxAt .waitLowDecision false 1000 0).rx.prevLevel = false := by
  decide

theorem witness_TimeoutThenEdgeEqualsEdge :
    let r := (rxAt .waitLowDecision false 1000 68000).rx
    r.prevLevel = false ∧ timeoutDue Regs.reset 77850 r = true ∧
      timeoutE Regs.reset ≤ ((sub64 80000 r.tFall).toNat : Int) := by decide

theorem witness_AcceptedEdgesAlternate :
    (rxAt .waitBitStart true 0 0).rx.levelSafe = true ∧ false ≠ (rxAt .waitBitStart true 0 0).rx.prevLevel ∧
    (rxAt .waitLowDecision false 0 0).rx.levelSafe = true ∧ true ≠ (rxAt .waitLowDecision false 0 0).rx.prevLevel := by decide

theorem witness_ReceiveStepTakesOneEvent :
    (∃ e, (rxNext State.reset 5).moves = .clock (rxTick e) :: [] ∧ (rxNext State.reset 5).io.rst = false) ∧
    State.reset.rx.enSync.getLastD false = false ∧
    (let s := (rxAt .waitBitStart false 0 0).setRx { (rxAt .waitBitStart false 0 0).rx with sync := [true, true] }
     s.rx.enSync.getLastD false = true ∧ s.rx.sync.getLastD false = true ∧ s.rx.prevLevel = false) ∧
    (let s := rxAt .waitHighToLow true 0 0
     s.rx.enSync.getLastD false = true ∧ s.rx.sync.getLastD false = false ∧ s.rx.prevLevel = true) ∧
    (let s := rxAt .waitLowDecision false 0 0
     s.rx.enSync.getLastD false = true ∧ s.rx.sync.getLastD false = s.rx.prevLevel) :=
  ⟨⟨_, rfl, rfl⟩, by decide, by decide, by decide, by decide⟩

/-- For MARK, SPACE and PAUSE: every decoder state, and for PAUSE the bit counts and both views of the frame channel. -/
theorem witness_MarkResult_SpaceResult_PauseResult :
    ([DecState.waitSync, .waitBitStart, .waitSpace, .waitMark].all fun d => (decAt d 0 0).dec.state == d) = true ∧
    ((decAt .waitBitStart 0 32).dec.cnt = 32#6 ∧ (decAt .waitBitStart 0 31).dec.cnt ≠ 32#6) ∧
    State.reset.fc.wcnt ≠ State.reset.fc.rsync.getLastD 0 + State.reset.params.frameDepth ∧
    (withFcFull State.reset).fc.wcnt =
      (withFcFull State.reset).fc.rsync.getLastD 0 + (withFcFull State.reset).params.frameDepth := by decide

theorem witness_OtherCodesAreViolations : 4 ≤ (4#4).toNat ∧ 4 ≤ (9#4).toNat ∧ 4 ≤ (15#4).toNat := by decide

/-- V-DEC28 with one `clk_sys` edge next. -/
def stallStep : State := sysNext (withCond (withFcFull (enabled (decAt .waitBitStart 0xFA00A55A 32))) codePause) 0 none

/-- The stall alone, and with every clock tied, a host write of DEC_STATS and a consumer that asks. -/
def stallTied : State := stallStep.setMoves [.clock
  { rx := some (stallStep.plainRxEdge 0)
    sys := some (stallStep.plainSysEdge (wrAcc 0x28 0))
    cons := some { ready := true, drawFcWrite := 4 } }]

theorem witness_DecoderStallsOnFullFrameChannel : [stallStep, stallTied].all (fun s =>
    (match s.moves with
      | [.clock k] => k.sys.isSome
      | _ => false) && !s.io.rst && s.regs.rxEn && s.cc.wsync.getLastD 0 != s.cc.rcnt && s.cc.buf == [codePause] &&
    s.dec.state == .waitBitStart && s.dec.cnt == 32#6 && s.fc.wcnt == s.fc.rsync.getLastD 0 + s.params.frameDepth &&
    s.fc.buf != []) = true := by decide

/-- A disabled decoder with a word to drain, and one with none. -/
def drainStep : State := sysNext (withCond (decAt .waitMark 3 2) codeOverflow) 0 none

/-- The drain with a tied receive side and a host that switches reception on in the same step. -/
def drainTied : State := drainStep.setMoves [.clock
  { rx := some (drainStep.plainRxEdge 0)
    sys := some (drainStep.plainSysEdge (wrAcc 4 1))
    cons := some { ready := true, drawFcWrite := 0 } }]

theorem witness_DisabledDecoderDrains :
    [drainStep, drainTied, sysNext State.reset 0 none].all (fun s =>
      (match s.moves with
        | [.clock k] => k.sys.isSome
        | _ => false) && !s.io.rst && !s.regs.rxEn && (s.cc.wsync.getLastD 0 == s.cc.rcnt || s.cc.buf != []) &&
      s.fc.wsync.getLastD 0 == s.fc.rcnt) = true ∧
    drainStep.cc.wsync.getLastD 0 ≠ drainStep.cc.rcnt ∧ State.reset.cc.wsync.getLastD 0 = State.reset.cc.rcnt := by decide

theorem witness_FrameNeedsExactly32Bits :
    (List.replicate 32 true).length = 32 ∧ (List.replicate 31 true).length ≠ 32 ∧ (List.replicate 33 true).length ≠ 32 := by
  decide

/-- The last boundary and a refused start in one step (V-TX9). -/
def endStep : State := sysNext (txAt 131 68000 0) 78000 (wrAcc 4 2)

theorem witness_SegmentBoundaryResult :
    (∃ k e, endStep.moves = .clock k :: [] ∧ endStep.io.rst = false ∧ k.sys = some e ∧ endStep.tx.busy = true ∧
      step endStep = .next (after endStep)) ∧
    (let s := txAt 0 1000 1249
     ¬(s.tx.busy = true ∧ segMul s.tx.word s.tx.seg.toNat * s.regs.tUs.toNat ≤ (s.io.sysNow - s.tx.t0).toNat)) ∧
    (let s := txAt 130 67750 68000
     (s.tx.busy = true ∧ segMul s.tx.word s.tx.seg.toNat * s.regs.tUs.toNat ≤ (s.io.sysNow - s.tx.t0).toNat) ∧
       s.tx.seg.toNat < 131) ∧
    (let s := txAt 131 68000 78000
     (s.tx.busy = true ∧ segMul s.tx.word s.tx.seg.toNat * s.regs.tUs.toNat ≤ (s.io.sysNow - s.tx.t0).toNat) ∧
       131 ≤ s.tx.seg.toNat) :=
  ⟨⟨_, _, rfl, rfl, rfl, rfl, rfl⟩, by decide, by decide, by decide⟩

theorem witness_EveryFrameHoldsTheBitsBetweenSyncAndPause :
    Dec.reset.state = .waitSync ∧
    (decRun ((codeSync :: (List.replicate 32 true).flatMap bitConds) ++ [codePause]) Dec.reset).2.getLast? =
      some (.frame 0xFFFFFFFF) ∧
    (decEvent codePause { state := .waitBitStart, acc := 5, cnt := 32 }).2 = .frame 5 ∧
    (decEvent codeMark { state := .waitSpace, acc := 5, cnt := 3 }).2 = .violation ∧ codeMark ≠ codeSync :=
  ⟨rfl, by decide +kernel, by decide, by decide, by decide⟩

/-- A telegram from 1000, in its segment `seg`, is on its schedule. -/
theorem onSchedule_txAt (seg : BitVec 8) (now : Stamp) (h : seg.toNat ≤ 131) :
    OnSchedule 1000 (txAt seg (1000 + BitVec.ofNat 64 (250 * segOffset 0xA0000000 seg.toNat)) now) :=
  ⟨rfl, h, rfl, rfl⟩

/-- The invariant holds of the reset state. -/
theorem inv_reset : Inv State.reset :=
  ⟨by decide, by decide, by decide, by decide, by decide, by decide, by decide, by decide, by decide, by decide⟩

/-- Placing moves keeps the invariant, which says nothing of them. -/
theorem inv_setMoves {s : State} (h : Inv s) (ms : List Move) : Inv (s.setMoves ms) :=
  ⟨h.params, h.rxStages, h.level, h.cond, h.frame, h.codes, h.active, h.drop, h.dec, h.tx⟩

/-- A start in the next step. -/
def startStep : State := sysNext State.reset 1000 (wrAcc 4 2)

/-- A start; a telegram at its first and its last segment with a boundary that is not due, just due, and no edge of
`clk_sys`. -/
theorem witness_SegmentTableOfATelegram : ((0 < 32 ∧ 31 < 32) ∧ (0 < 2 ∧ 1 < 2)) ∧
    (∃ k e a, startStep.moves = .clock k :: [] ∧ startStep.io.rst = false ∧ k.sys = some e ∧ e.bus = some a ∧
      a.we = true ∧ a.off.extractLsb' 2 4 = 1 ∧ a.wdata.getLsbD 1 = true ∧ startStep.tx.busy = false ∧
      step startStep = .next (after startStep)) ∧
    [(0, 1249, false), (0, 1250, true), (131, 77999, false), (131, 78000, true)].all (fun (x : BitVec 8 × Stamp × Bool) =>
      let s := sysNext (txAt x.1 (1000 + BitVec.ofNat 64 (250 * segOffset 0xA0000000 x.1.toNat)) 0) x.2.1 none
      s.takeMove.1 != .rst true && !s.io.rst && holds (step s) (fun t => (t.tx != s.tx) == x.2.2) &&
      decide (s.regs.tUs.toNat * segOffset s.tx.word s.tx.seg.toNat ≤ (x.2.1 - 1000).toNat)) = true ∧
    holds (step ((txAt 0 1000 0).setMoves [.clock (consTick { ready := false, drawFcWrite := 0 })]))
      (fun t => t.tx == (txAt 0 1000 0).tx) = true :=
  ⟨by decide, ⟨_, _, _, rfl, rfl, rfl, rfl, rfl, by decide, by decide, rfl, rfl⟩, by decide +kernel, by decide⟩

theorem witness_OnlyAStartLeavesIdle : (Inv State.reset ∧ State.reset.tx.busy = false) ∧
    startStep.tx.busy = false ∧ step startStep = .next (after startStep) ∧ (after startStep).tx ≠ startStep.tx ∧
    (after startStep).tx ≠ Tx.reset :=
  ⟨⟨inv_reset, rfl⟩, rfl, rfl, by decide, by decide⟩

/-- Two states that differ in the decoder and the channels only. -/
theorem witness_TransmitterAndReceiverAreSeparate :
    let s1 := sysNext (txAt 0 1000 0) 1250 none
    let s2 := sysNext ((txAt 0 1000 0).setDec { state := .waitMark, acc := 1, cnt := 1 }) 1250 none
    s1 ≠ s2 ∧ s1.params = s2.params ∧ s1.regs = s2.regs ∧ s1.io = s2.io ∧ s1.fair = s2.fair ∧ s1.moves = s2.moves ∧
      s1.freeIdx = s2.freeIdx ∧ step s1 = .next (after s1) ∧ step s2 = .next (after s2) ∧ s1.tx = s2.tx ∧ s1.rx = s2.rx ∧
      s1.cc = s2.cc :=
  ⟨by decide, rfl, rfl, rfl, rfl, rfl, rfl, rfl, rfl, rfl, rfl, rfl⟩

theorem witness_CleanTelegramGivesItsConditions_RoundTripGivesTheFrame :
    State.reset.rx.det = .waitBitStart ∧ State.reset.rx.prevLevel = false ∧
    Regs.reset.tolPlusUs.toNat < 4 * Regs.reset.tUs.toNat ∧ Regs.reset.pauseTimeoutEn = true ∧
    timeoutE Regs.reset ≤ (((77850#64) - (68000#64)).toNat : Int) := by decide

theorem witness_PopTakesTheHead_FramePopTakesFrameData :
    State.reset.cc.wsync.getLastD 0 = State.reset.cc.rcnt ∧ State.reset.fc.wsync.getLastD 0 = State.reset.fc.rcnt ∧
    ((withCond State.reset 2).cc.wsync.getLastD 0 ≠ (withCond State.reset 2).cc.rcnt ∧
      (withCond State.reset 2).cc.buf = 2 :: []) ∧
    ((withFcFull State.reset).fc.wsync.getLastD 0 ≠ (withFcFull State.reset).fc.rcnt ∧
      (withFcFull State.reset).fc.buf = 1 :: [2, 3, 4]) := by decide

theorem witness_ChannelsAreSafeWhenReachable : legalParams defaultParams = true ∧
    ∃ s, Host.Core.run Sys2Proof.core 2 ((State.resetWith defaultParams).setMoves [.line true, .rst false]) = .next s :=
  ⟨by decide, _, rfl⟩

theorem witness_ChannelsAreFirstInFirstOut :
    drainStep.takeMove.1 ≠ .rst true ∧ step drainStep = .next (after drainStep) ∧ (after drainStep).cc.rcnt = 1 :=
  ⟨by decide, rfl, by decide⟩

/-- Edges of all three domains at once, twice. -/
def tiedTwice : State :=
  let k : Tick :=
    { rx := some { now := 1, keepRxIn := false, keepRxEn := false, drawCcRead := 0 }
      sys := some (State.reset.plainSysEdge none)
      cons := some { ready := false, drawFcWrite := 0 } }
  State.reset.setMoves [.clock k, .clock k]

/-- A settled `CTRL.RX_EN` that the host changes in the very step that samples it: the draw is free, and the record falls. -/
def changedSettled : State :=
  (State.reset.setFair { Fair.reset with rxEn := true }).setMoves [.clock
    { rx := some { now := 1, keepRxIn := false, keepRxEn := false, drawCcRead := 0 }
      sys := some (State.reset.plainSysEdge (wrAcc 4 1))
      cons := none }]

theorem witness_SynchronisersSampleWithinTheDraw :
    (∃ k, tiedTwice.moves = .clock k :: tiedTwice.moves.tail ∧ k.rx.isSome = true ∧ k.sys.isSome = true ∧
      k.cons.isSome = true ∧ tiedTwice.io.rst = false ∧ tiedTwice.fair = Fair.reset) ∧
    (step tiedTwice = .next (after tiedTwice) ∧ (after tiedTwice).fair.rxEn = true) ∧
    (changedSettled.takeMove.1 ≠ .rst true ∧ step changedSettled = .next (after changedSettled) ∧
      changedSettled.fair.rxEn = true ∧ (after changedSettled).regs.rxEn ≠ changedSettled.regs.rxEn ∧
      (after changedSettled).fair.rxEn = false) :=
  ⟨⟨_, rfl, rfl, rfl, rfl, rfl, rfl⟩, ⟨rfl, by decide⟩, by decide, rfl, rfl, by decide, by decide⟩

/-- Four edges of every domain, with a move of the line to its own level and an edge of `clk_cons` alone between them:
SYNC_STAGES + 2 with the default parameters. -/
def spreadMoves : List Move :=
  let k : Move := .clock
    { rx := some { now := 1, keepRxIn := true, keepRxEn := true, drawCcRead := 0 }
      sys := some { State.reset.plainSysEdge none with keepActive := true }
      cons := some { ready := false, drawFcWrite := 0 } }
  [k, .line false, k, .clock (consTick { ready := false, drawFcWrite := 0 }), k, k]

/-- A value that every state of a run shows stays unchanged during it. -/
theorem staysDuring_of_states {α : Type} {src : State → α} (s : State) (l : List Move)
    (h : ∀ j ≤ l.length, ∃ u, Host.Core.run Sys2Proof.core j s = .next u ∧ src u = src s) :
    StaysDuring s l.length src := by
  intro j u hj hu
  obtain ⟨v, hv, hsrc⟩ := h j hj
  cases hv.symm.trans hu
  exact hsrc

theorem witness_UnchangedSourceIsHeld :
    let s := State.reset.setMoves spreadMoves
    Inv s ∧ s.io.rst = false ∧ Move.rst true ∉ spreadMoves ∧ s.moves = spreadMoves ++ [] ∧
    (∃ t, Host.Core.run Sys2Proof.core spreadMoves.length s = .next t) ∧
    spreadMoves.countP Move.rxEdge = s.params.syncStages + 2 ∧ spreadMoves.countP Move.sysEdge = s.params.syncStages + 2 ∧
    s.params.syncStages + 1 ≤ spreadMoves.countP Move.consEdge ∧
    StaysDuring s spreadMoves.length (fun u =>
      ((u.io.rxIn, u.regs.rxEn, u.rxEnView), (u.cc.rcnt, u.cc.wcnt, u.fc.rcnt, u.fc.wcnt), u.rx.dropCnt)) := by
  refine ⟨inv_setMoves inv_reset _, rfl, by decide, rfl, ⟨_, rfl⟩, by decide, by decide, by decide, ?_⟩
  refine staysDuring_of_states _ _ fun j hj => ?_
  have hj : j ≤ 6 := hj
  interval_cases j <;> exact ⟨_, rfl, rfl⟩

/-- Three edges of every domain: SYNC_STAGES + 1 with the default parameters. -/
def tiedThrice : State :=
  let k : Tick :=
    { rx := some { now := 1, keepRxIn := false, keepRxEn := false, drawCcRead := 0 }
      sys := some (State.reset.plainSysEdge none)
      cons := some { ready := false, drawFcWrite := 0 } }
  State.reset.setMoves [.clock k, .clock k, .clock k]

theorem witness_ViewsCatchUpWithAnUnchangingCount : Inv State.reset ∧ State.reset.io.rst = false ∧
    Move.rst true ∉ tiedThrice.moves ∧ State.reset.params.syncStages + 1 ≤ tiedThrice.moves.length ∧
    (∀ m ∈ tiedThrice.moves, ∃ k, m = .clock k ∧ k.rx.isSome = true ∧ k.sys.isSome = true ∧ k.cons.isSome = true) ∧
    ∃ t, Host.Core.run Sys2Proof.core tiedThrice.moves.length (State.reset.setMoves tiedThrice.moves) = .next t ∧
      State.reset.cc.wcnt = t.cc.wcnt ∧ State.reset.cc.rcnt = t.cc.rcnt ∧ State.reset.fc.wcnt = t.fc.wcnt ∧
      State.reset.fc.rcnt = t.fc.rcnt := by
  refine ⟨inv_reset, rfl, by decide, by decide, ?_, _, rfl, rfl, rfl, rfl, rfl⟩
  intro m hm
  simp only [tiedThrice, State.setMoves, List.mem_cons, List.not_mem_nil, or_false, or_self] at hm
  exact ⟨_, hm, rfl, rfl, rfl⟩

/-- A host access, a visible condition, an edge event and a consumer request, each read by the next step. -/
theorem witness_StepRunsTheDecodedOperation :
    (∃ e a, readStep.moves = .clock (sysTick e) :: [] ∧ readStep.io.rst = false ∧ e.bus = some a ∧
      decode (.bus (BitVec.ofBool a.we ++ a.off) a.wdata) = .ok (.rdStatus 0)) ∧
    (let s := sysNext (enabled (withCond State.reset codeSync)) 0 none
     ∃ e, s.moves = .clock (sysTick e) :: [] ∧ s.io.rst = false ∧ e.bus = none ∧ s.regs.rxEn = true ∧
      s.cc.wsync.getLastD 0 ≠ s.cc.rcnt ∧ s.cc.buf = codeSync :: [] ∧ (s.wouldEmit codeSync && s.fcFull) = false ∧
      decode (.cond codeSync) = .ok .condSync) ∧
    (let s := rxNext (rxAt .waitHighToLow true 1000 0) 1250
     ∃ e, s.moves = .clock (rxTick e) :: [] ∧ s.io.rst = false ∧ s.rxEnView = true ∧ s.sLvl ≠ s.rx.prevLevel ∧
      decode (.edge (BitVec.ofBool s.sLvl ++ e.now)) = .ok (.edgeFall 1250)) ∧
    (let s := State.reset.setMoves [.clock (consTick { ready := true, drawFcWrite := 0 })]
     ∃ e, s.moves = .clock (consTick e) :: [] ∧ s.io.rst = false ∧ decode (.cons e.ready) = .ok .framePop) :=
  ⟨⟨_, _, rfl, rfl, rfl, by decide⟩, ⟨_, rfl, rfl, rfl, rfl, by decide, rfl, by decide, by decide⟩,
    ⟨_, rfl, rfl, rfl, by decide, by decide⟩, ⟨_, rfl, rfl, rfl⟩⟩

theorem witness_RstResetsEveryElement :
    ((txAt 40 0 0).setMoves [.rst true]).moves = .rst true :: [] ∧
    (let s := (tiedTwice.setIo { tiedTwice.io with rst := true })
     ∃ k rest, s.moves = .clock k :: rest ∧ s.io.rst = true) ∧
    (State.reset.setMoves [.line true]).moves = .line true :: [] ∧
    (State.reset.setMoves [.rst false]).moves = .rst false :: [] :=
  ⟨rfl, ⟨_, _, rfl, rfl⟩, rfl, rfl⟩

theorem witness_InvariantHoldsAtReset_ResetValues : legalParams { syncStages := 3, condDepth := 8, frameDepth := 2 } = true := by decide

theorem witness_StepKeepsTheInvariant_NothingStopsTheBlock : Inv readStep ∧ step readStep = .next (after readStep) :=
  ⟨inv_setMoves inv_reset _, rfl⟩

/-- Reception switched off with the enable still up everywhere, and a word waiting. -/
def drainStart : State :=
  rxNext ((withCond (rxAt .waitBitStart false 0 0) codeMark).setViews
    { State.reset.views with rxActive := [true, true, true] }) 5

theorem inv_drainStart : Inv drainStart :=
  ⟨by decide, by decide, by decide, by decide, by decide, by decide, by decide, by decide, by decide, by decide⟩

/-- A stage of a list of `true` is never `false`. -/
theorem no_false_stage {l : List Bool} (h : l.all (fun b => b) = true) (i : Nat) : l[i]? ≠ some false := by
  intro hi
  have := List.all_eq_true.mp h _ (List.mem_of_getElem? hi)
  exact absurd this (by decide)

theorem draining_drainStart : Draining drainStart where
  off := rfl
  falling := fun _ j _ hj => absurd hj (no_false_stage (by decide) j)
  reached := fun k hk => absurd hk (no_false_stage (by decide) k)
  first := fun hk => absurd hk (no_false_stage (by decide) 0)

theorem witness_DrainGoesOn : (Inv drainStart ∧ Draining drainStart ∧ step drainStart = .next (after drainStart) ∧
      (after drainStart).regs.rxEn = false) ∧
    drainStart.regs.rxEn = false ∧ drainStart.rx.enSync.all (fun b => b) = true ∧
    drainStart.views.rxActive.all (fun b => b) = true :=
  ⟨⟨inv_drainStart, draining_drainStart, rfl, by decide⟩, rfl, by decide, by decide⟩

/-- The end of a drain: the reset state, in which every stage has fallen and nothing waits. -/
theorem draining_reset : Draining State.reset where
  off := rfl
  falling := fun i j hij hj => by
    have hj2 : j < 2 := by
      obtain ⟨h, -⟩ := List.getElem?_eq_some_iff.mp hj
      exact h
    interval_cases j <;> interval_cases i <;> rfl
  reached := fun k hk => by
    have hk3 : k < 3 := by
      obtain ⟨h, -⟩ := List.getElem?_eq_some_iff.mp hk
      exact h
    refine ⟨rfl, fun j hj => ?_⟩
    interval_cases k <;> interval_cases j <;> exact ⟨rfl, rfl⟩
  first := fun _ => .inr rfl

theorem witness_DrainIsCompleteWhenRxActiveFalls :
    Inv State.reset ∧ Draining State.reset ∧ (State.reset.regval 2).getLsbD 0 = false :=
  ⟨inv_reset, draining_reset, by decide⟩

end Sys2Proof.Tests
end

section
/-! PROOF. A step runs `exec` of the operation that the word on a port decodes to (R17): what an edge of one clock domain
runs, what the latched state presents on that domain's port, and O53 from both. -/

namespace Sys2Proof.Machine

/-! ## Sequencing -/

theorem andThen_assoc (o : Result) (k l : State → Result) :
    andThen (andThen o k) l = andThen o fun s => andThen (k s) l := by
  cases o <;> rfl

theorem andThen_next_right (o : Result) : andThen o .next = o := by
  cases o <;> rfl

/-! ## An edge of one domain runs that domain's cycle on the latched state -/

theorem tickOps_sysTick (s0 : State) (e : SysEdge) : tickOps s0 (sysTick e) = sysCycle s0 s0 := rfl

theorem tickOps_rxTick (s0 : State) (e : RxEdge) : tickOps s0 (rxTick e) = rxCycle s0 :=
  andThen_next_right (rxCycle s0)

theorem tickOps_consTick (s0 : State) (e : ConsEdge) : tickOps s0 (consTick e) = consCycle s0 :=
  andThen_next_right (consCycle s0)

/-- The host access, the decoder, the transmitter, then the synchronisers (R149). -/
theorem step_sysTick {s : State} {e : SysEdge} {rest : List Move} (hm : s.moves = .clock (sysTick e) :: rest)
    (hr : s.io.rst = false) :
    let s0 := (s.setMoves rest).latch (sysTick e)
    step s = andThen (hostCycle s0) fun u => andThen (decoderCycle s0.decAction u) fun v =>
      andThen (txCycle s0.tx.busy v) fun r => .next (s0.settle (s0.shiftAll r (sysTick e)) false true false) := by
  intro s0
  rw [step_clock hm hr, clockStep, tickOps_sysTick, sysCycle, andThen_assoc]
  simp only [andThen_assoc]
  rfl

theorem step_rxTick {s : State} {e : RxEdge} {rest : List Move} (hm : s.moves = .clock (rxTick e) :: rest)
    (hr : s.io.rst = false) :
    let s0 := (s.setMoves rest).latch (rxTick e)
    step s = andThen (rxCycle s0) fun r => .next (s0.settle (s0.shiftAll r (rxTick e)) true false false) := by
  intro s0
  rw [step_clock hm hr, clockStep, tickOps_rxTick]
  rfl

theorem step_consTick {s : State} {e : ConsEdge} {rest : List Move} (hm : s.moves = .clock (consTick e) :: rest)
    (hr : s.io.rst = false) :
    let s0 := (s.setMoves rest).latch (consTick e)
    step s = andThen (consCycle s0) fun r => .next (s0.settle (s0.shiftAll r (consTick e)) false false true) := by
  intro s0
  rw [step_clock hm hr, clockStep, tickOps_consTick]
  rfl

/-! ## The word that the latched state presents on each port -/

theorem busValid_latch_sysTick (s : State) (e : SysEdge) : (s.latch (sysTick e)).io.busValid = e.bus.isSome := by
  cases hb : e.bus <;> simp [State.latch, sysTick, Ports.latchRx, Ports.latchSys, Ports.latchCons, hb]

theorem busWord_latch_sysTick (s : State) {e : SysEdge} {a : BusAccess} (hb : e.bus = some a) :
    (s.latch (sysTick e)).busWord = .bus (BitVec.ofBool a.we ++ a.off) a.wdata := by
  simp [State.busWord, State.latch, sysTick, Ports.latchRx, Ports.latchSys, Ports.latchCons, hb]

theorem edgeWord_latch_rxTick (s : State) (e : RxEdge) :
    (s.latch (rxTick e)).edgeWord = .edge (BitVec.ofBool s.sLvl ++ e.now) := rfl

theorem frameReady_latch_consTick (s : State) (e : ConsEdge) : (s.latch (consTick e)).io.frameReady = e.ready := rfl

/-! ## What each port runs -/

/-- R133, R134: a host access runs the operation of its BUS word. -/
theorem hostCycle_of_access (s : State) {e : SysEdge} {a : BusAccess} {i : Instr} (hb : e.bus = some a)
    (hd : decode (.bus (BitVec.ofBool a.we ++ a.off) a.wdata) = .ok i) :
    hostCycle (s.latch (sysTick e)) = exec i (s.latch (sysTick e)) := by
  rw [hostCycle, busValid_latch_sysTick, hb, busWord_latch_sysTick s hb, runWord_of_decode hd]
  rfl

/-- A `clk_sys` step without a host access leaves the state to the decoder. -/
theorem hostCycle_of_no_access (s : State) {e : SysEdge} (hb : e.bus = none) :
    hostCycle (s.latch (sysTick e)) = .next (s.latch (sysTick e)) := by
  rw [hostCycle, busValid_latch_sysTick, hb]
  rfl

/-- R121: an enabled decoder consumes the visible head, unless it is a PAUSE that waits for room (R120). -/
theorem decAction_eq_consume {s : State} {c : Code} {more : List Code} (hen : s.regs.rxEn = true)
    (hv : s.cc.wsync.getLastD 0 ≠ s.cc.rcnt) (hbuf : s.cc.buf = c :: more)
    (hroom : (s.wouldEmit c && s.fcFull) = false) : s.decAction = .consume c := by
  have hvisible : s.cc.emptyR = false := beq_eq_false_iff_ne.mpr hv
  simp [State.decAction, hvisible, hbuf, hen, hroom]

/-- The consumed word is popped first (R100), then its operation runs. -/
theorem decoderCycle_consume {s : State} {c : Code} {more : List Code} {i : Instr} (hbuf : s.cc.buf = c :: more)
    (hd : decode (.cond c) = .ok i) :
    decoderCycle (.consume c) s = exec i ((s.setCc { s.cc with buf := more, rcnt := s.cc.rcnt + 1 }).setIo
      { s.io with condPopped := some c }) := by
  have hpop := popCond_eq_some.mpr ⟨more, hbuf, rfl⟩
  simp only [decoderCycle, hpop, runWord_of_decode hd]

/-- R85: an edge of the synchronised level, seen by an enabled receive side, runs the operation of the EDGE word. -/
theorem rxCycle_of_edge {s : State} {i : Instr} (hen : s.rxEnView = true) (hne : s.sLvl ≠ s.rx.prevLevel)
    (hd : decode s.edgeWord = .ok i) : rxCycle s = exec i s := by
  simp [rxCycle, hen, hne, runWord_of_decode hd]

end Sys2Proof.Machine

section
open Sys2Proof Sys2Proof.Machine

/-- Settles O53: `step` of an edge of one domain is that domain's cycle, and the cycle decodes the word on its port. -/
theorem stepRunsTheDecodedOperation : Obligations.StepRunsTheDecodedOperation := by
  refine ⟨?hostAccess, ?condition, ?edge, ?consumer⟩
  case hostAccess =>
    intro s e a rest i hm hr hb hd s0
    rw [step_sysTick hm hr, hostCycle_of_access _ hb hd]
  case condition =>
    intro s e c more rest i hm hr hb hen hv hbuf hroom hd s0
    have hact : s0.decAction = .consume c := decAction_eq_consume hen hv hbuf hroom
    have hdec := decoderCycle_consume (s := s0) hbuf hd
    rw [step_sysTick hm hr, hostCycle_of_no_access _ hb, andThen_next, hact, hdec]
  case edge =>
    intro s e rest i hm hr hen hne hd s0
    have hword : decode s0.edgeWord = .ok i := (congrArg decode (edgeWord_latch_rxTick _ e)).trans hd
    rw [step_rxTick hm hr, rxCycle_of_edge (s := s0) hen hne hword]
  case consumer =>
    intro s e rest i hm hr hd s0
    rw [step_consTick hm hr, consCycle, frameReady_latch_consTick, runWord_of_decode hd]

end
end

section
/-! PROOF. What one step does to the channels and the synchronisers (R17, R50, R52, R56): the entries that each cycle pushes
and pops, what the operations leave alone, and from both one summary of every step but an assertion of `rst`. O49 reads
off the summary. -/

namespace Sys2Proof.Machine

/-! ## A channel's entries move from its tail to its head -/

/-- `c'` is `c` after the entries `pushed` have gone in at the tail and the entries `popped` have come out at the head. -/
structure Chan.Moved {w : Nat} (c c' : Chan w) (pushed popped : List (BitVec w)) : Prop where
  entries : c.buf ++ pushed = popped ++ c'.buf
  wcnt : c'.wcnt = c.wcnt + pushed.length
  rcnt : c'.rcnt = c.rcnt + popped.length

theorem Chan.Moved.refl {w : Nat} (c : Chan w) : c.Moved c [] [] := ⟨by simp, by simp, by simp⟩

theorem Chan.Moved.trans {w : Nat} {c d e : Chan w} {p p' q q' : List (BitVec w)} (h : c.Moved d p q)
    (h' : d.Moved e p' q') : c.Moved e (p ++ p') (q ++ q') where
  entries := by rw [← List.append_assoc, h.entries, List.append_assoc, h'.entries, List.append_assoc]
  wcnt := by rw [h'.wcnt, h.wcnt, List.length_append, Nat.add_assoc]
  rcnt := by rw [h'.rcnt, h.rcnt, List.length_append, Nat.add_assoc]

theorem Chan.moved_push {w : Nat} (c : Chan w) (v : BitVec w) : c.Moved (c.push v) [v] [] :=
  ⟨by simp [Chan.push], rfl, rfl⟩

theorem Chan.moved_pop {w : Nat} {c : Chan w} {v : BitVec w} {rest : List (BitVec w)} (h : c.buf = v :: rest) :
    c.Moved { c with buf := rest, rcnt := c.rcnt + 1 } [] [v] := ⟨by simp [h], rfl, rfl⟩

/-! ## What an operation may do -/

/-- From `s` to `t` the operations of a step have moved these entries through the two channels and have left alone every
synchroniser, the fairness record, the line, `rst` and the environment's moves. -/
structure Ran (s t : State) (condIn condOut : List Code) (frameIn frameOut : List Word) : Prop where
  cond : s.cc.Moved t.cc condIn condOut
  frame : s.fc.Moved t.fc frameIn frameOut
  sync : t.rx.sync = s.rx.sync := by rfl
  enSync : t.rx.enSync = s.rx.enSync := by rfl
  condSync : t.cc.wsync = s.cc.wsync ∧ t.cc.rsync = s.cc.rsync := by exact ⟨rfl, rfl⟩
  frameSync : t.fc.wsync = s.fc.wsync ∧ t.fc.rsync = s.fc.rsync := by exact ⟨rfl, rfl⟩
  views : t.views = s.views := by rfl
  fair : t.fair = s.fair := by rfl
  inputs : t.io.rxIn = s.io.rxIn ∧ t.io.rst = s.io.rst := by exact ⟨rfl, rfl⟩
  moves : t.moves = s.moves := by rfl

theorem Ran.refl (s : State) : Ran s s [] [] [] [] := { cond := .refl _, frame := .refl _ }

theorem Ran.trans {s t u : State} {a a' b b' : List Code} {c c' d d' : List Word} (h : Ran s t a b c d)
    (h' : Ran t u a' b' c' d') : Ran s u (a ++ a') (b ++ b') (c ++ c') (d ++ d') where
  cond := h.cond.trans h'.cond
  frame := h.frame.trans h'.frame
  sync := h'.sync.trans h.sync
  enSync := h'.enSync.trans h.enSync
  condSync := ⟨h'.condSync.1.trans h.condSync.1, h'.condSync.2.trans h.condSync.2⟩
  frameSync := ⟨h'.frameSync.1.trans h.frameSync.1, h'.frameSync.2.trans h.frameSync.2⟩
  views := h'.views.trans h.views
  fair := h'.fair.trans h.fair
  inputs := ⟨h'.inputs.1.trans h.inputs.1, h'.inputs.2.trans h.inputs.2⟩
  moves := h'.moves.trans h.moves

section
variable {s t : State} {a b : List Code} {c d : List Word}

/-! The registers, the decoder, the transmitter and `bus_rdata` hold no entry of a channel and no stage. -/

theorem Ran.setRegs (h : Ran s t a b c d) (r : Regs) : Ran s (t.setRegs r) a b c d := { h with }

theorem Ran.setDec (h : Ran s t a b c d) (r : Dec) : Ran s (t.setDec r) a b c d := { h with }

theorem Ran.setTx (h : Ran s t a b c d) (r : Tx) : Ran s (t.setTx r) a b c d := { h with }

theorem Ran.driveRdata (h : Ran s t a b c d) (v : Word) : Ran s (t.driveRdata v) a b c d := { h with }

end

theorem ran_pushFrame (s : State) (f : Word) : Ran s (s.pushFrame f) [] [] [f] [] :=
  { cond := .refl _, frame := s.fc.moved_push f }

/-- What a push of the write side changes beside the channel: `ovf_pending`, `drop_cnt` and the condition's wire. -/
theorem ran_pushCond (s : State) (c : Code) (out : Option Code) (pending : Bool) (dropped : Half) :
    Ran s (((s.emit out).pushCond c).setRx { s.rx with ovfPending := pending, dropCnt := dropped }) [c] [] [] [] :=
  { cond := s.cc.moved_push c, frame := .refl _ }

/-! ## `clk_cons` -/

/-- R108: the consumer's step takes at most the head of the frame channel. -/
theorem consCycle_ran {s t : State} (h : consCycle s = .next t) :
    ∃ out : List Word, out.length ≤ 1 ∧ Ran s t [] [] [] out := by
  unfold consCycle at h
  cases hready : s.io.frameReady with
  | false =>
    rw [hready] at h
    cases h
    exact ⟨[], by simp, .refl s⟩
  | true =>
    rw [hready] at h
    have hread : s.readFrame = .next t := h
    obtain ⟨-, hr⟩ | ⟨-, -, hr⟩ | ⟨-, f, rest, hbuf, hr⟩ := readFrame_cases s <;> rw [hr] at hread <;> cases hread
    · exact ⟨[], by simp, .refl s⟩
    · exact ⟨[f], by simp, { cond := .refl _, frame := Chan.moved_pop hbuf }⟩

/-! ## `clk_rx` -/

/-- The classifier's two event-level functions leave the synchronisers alone. -/
theorem detEvent_keeps (g : Regs) (lvl : Bool) (t : Stamp) (r : Rx) :
    (detEvent g lvl t r).2.sync = r.sync ∧ (detEvent g lvl t r).2.enSync = r.enSync := by
  unfold detEvent riseArm fallArm
  repeat' split
  all_goals exact ⟨rfl, rfl⟩

theorem detTimeout_keeps (g : Regs) (now : Stamp) (r : Rx) :
    (detTimeout g now r).2.sync = r.sync ∧ (detTimeout g now r).2.enSync = r.enSync := by
  unfold detTimeout
  split <;> exact ⟨rfl, rfl⟩

/-- R104: the write side pushes at most one word, whatever the classifier hands it. -/
theorem writeSide_ran (s : State) (c : Option Code) :
    ∃ pushed : List Code, pushed.length ≤ 1 ∧ Ran s (s.writeSide c) pushed [] [] [] := by
  have none_pushed : ∀ out pending dropped,
      Ran s ((s.emit out).setRx { s.rx with ovfPending := pending, dropCnt := dropped }) [] [] [] [] := fun _ _ _ =>
    { cond := .refl _, frame := .refl _ }
  obtain ⟨-, hw⟩ | ⟨-, -, -, -, hw⟩ | ⟨-, -, -, -, hw⟩ | ⟨-, -, -, v, -, hw⟩ | ⟨-, -, -, hw⟩ | ⟨-, -, -, hw⟩ :=
    writeSide_cases s c <;> rw [hw]
  case inl => exact ⟨[], by simp, none_pushed c s.rx.ovfPending s.rx.dropCnt⟩
  case inr.inl => exact ⟨[codeOverflow], by simp, ran_pushCond s codeOverflow c false s.rx.dropCnt⟩
  case inr.inr.inl => exact ⟨[codeOverflow], by simp, ran_pushCond s codeOverflow c true (satinc16 s.rx.dropCnt)⟩
  case inr.inr.inr.inl => exact ⟨[v], by simp, ran_pushCond s v c s.rx.ovfPending s.rx.dropCnt⟩
  case inr.inr.inr.inr.inl => exact ⟨[], by simp, none_pushed c true (satinc16 s.rx.dropCnt)⟩
  case inr.inr.inr.inr.inr => exact ⟨[], by simp, none_pushed c s.rx.ovfPending s.rx.dropCnt⟩

theorem applyDet_ran (s : State) (o : Option Code × Rx) (h : o.2.sync = s.rx.sync ∧ o.2.enSync = s.rx.enSync) :
    ∃ pushed : List Code, pushed.length ≤ 1 ∧ Ran s (s.applyDet o) pushed [] [] [] := by
  obtain ⟨hsync, hen⟩ := h
  have hset : Ran s (s.setRx o.2) [] [] [] [] :=
    { cond := .refl _, frame := .refl _, sync := hsync, enSync := hen }
  obtain ⟨pushed, hlen, hran⟩ := writeSide_ran (s.setRx o.2) o.1
  exact ⟨pushed, hlen, hset.trans hran⟩

/-- R83 to R85: the receive side's step pushes at most one condition, and none while it is off. -/
theorem rxCycle_ran {s t : State} (h : rxCycle s = .next t) :
    ∃ pushed : List Code, pushed.length ≤ 1 ∧ (s.rxEnView = false → pushed = []) ∧ Ran s t pushed [] [] [] := by
  have enabled : ∀ (o : Option Code × Rx), s.rxEnView = true → o.2.sync = s.rx.sync ∧ o.2.enSync = s.rx.enSync →
      ∃ pushed : List Code, pushed.length ≤ 1 ∧ (s.rxEnView = false → pushed = []) ∧
        Ran s (s.applyDet o) pushed [] [] [] := fun o hen hkeep => by
    obtain ⟨pushed, hlen, hran⟩ := applyDet_ran s o hkeep
    exact ⟨pushed, hlen, fun hoff => absurd (hen.symm.trans hoff) (by decide), hran⟩
  obtain ⟨-, hc⟩ | ⟨hen, -, hc⟩ | ⟨hen, -, -, hc⟩ | ⟨hen, -, -, hc⟩ := rxCycle_cases s <;> rw [hc] at h
  case inl =>
    cases h
    exact ⟨[], by simp, fun _ => rfl, { cond := .refl _, frame := .refl _ }⟩
  case inr.inl =>
    simp only [runWord, State.edgeWord, decode, decodeEdge] at h
    split at h <;> cases h <;> exact enabled _ hen (detEvent_keeps _ _ _ _)
  case inr.inr.inl =>
    cases h
    exact enabled _ hen (detTimeout_keeps _ _ _)
  case inr.inr.inr =>
    cases h
    exact enabled (none, s.rx) hen ⟨rfl, rfl⟩

/-! ## `clk_sys` -/

/-- R133, R134: the slot `bus_off[5:2]` as a slot number. -/
theorem toNat_slot (off : BitVec 6) : ((off >>> 2).setWidth 4).toNat = (off >>> 2).toNat := by
  simp only [BitVec.toNat_setWidth, BitVec.toNat_ushiftRight, Nat.shiftRight_eq_div_pow]
  omega

/-- R133, R147: a bus read shows its slot's register, and changes nothing else. -/
theorem exec_decodeRead (off : BitVec 6) (s : State) :
    exec (decodeRead off) s = .next (s.driveRdata (s.regval ((off >>> 2).setWidth 4))) := by
  unfold decodeRead State.regval
  rw [toNat_slot]
  match (off >>> 2).toNat with
  | 0 | 1 | 2 | 3 | 4 | 5 | 6 | 7 | 8 | 9 | 10 | 11 => rfl
  | _ + 12 => rfl

/-- R137: a write of CTRL moves no entry. -/
theorem writeCtrl_ran (s : State) (v : Word) : Ran s (s.writeCtrl v) [] [] [] [] := by
  have hwrite : Ran s (s.busWrite.setRegs { s.regs with rxEn := v.getLsbD 0 }) [] [] [] [] :=
    ((Ran.refl s).driveRdata 0).setRegs _
  simp only [State.writeCtrl, State.startTelegram]
  repeat' split
  · exact hwrite
  · exact hwrite.setTx _
  · exact hwrite

/-- R135: a guarded write moves no entry, whether it is let through or ignored. -/
theorem guardedWrite_ran (s : State) (r : Regs) : Ran s (s.guardedWrite r) [] [] [] [] := by
  have hwrite : Ran s s.busWrite [] [] [] [] := (Ran.refl s).driveRdata 0
  unfold State.guardedWrite
  split
  · exact hwrite.setRegs r
  · exact hwrite

/-- R127, R137: a write of CTRL does the same whether or not it is named TX_START. -/
theorem exec_ctrlWrite (x : BitVec 2) (v : Word) (s : State) :
    exec (if v.getLsbD 1 then .txStart x v else .wrCtrl x v) s = .next (s.writeCtrl v) := by
  split <;> rfl

/-- R134: a bus write gives a next state and moves no entry. -/
theorem exec_decodeWrite (off : BitVec 6) (v : Word) (s : State) :
    ∃ t, exec (decodeWrite off v) s = .next t ∧ Ran s t [] [] [] [] := by
  have hwrite : Ran s s.busWrite [] [] [] [] := (Ran.refl s).driveRdata 0
  unfold decodeWrite
  generalize (off >>> 2).toNat = slot
  match slot with
  | 1 => exact ⟨_, exec_ctrlWrite _ v s, writeCtrl_ran s v⟩
  | 5 | 6 | 7 => exact ⟨_, rfl, guardedWrite_ran s _⟩
  | 3 | 4 | 8 | 10 => exact ⟨_, rfl, hwrite.setRegs _⟩
  | 0 | 2 | 9 | 11 | _ + 12 => exact ⟨_, rfl, hwrite⟩

/-- R133, R134: the host access of a step gives a next state and moves no entry. -/
theorem hostCycle_ran {s t : State} (h : hostCycle s = .next t) : Ran s t [] [] [] [] := by
  simp only [hostCycle, runWord, State.busWord, decode, decodeBus] at h
  split at h
  · split at h
    · obtain ⟨u, hu, hran⟩ := exec_decodeWrite ((BitVec.ofBool s.io.busWe ++ s.io.busOff).setWidth 6) s.io.busWdata s
      cases hu.symm.trans h
      exact hran
    · rw [exec_decodeRead] at h
      cases h
      exact (Ran.refl s).driveRdata _
  · cases h
    exact .refl s

/-- R118: the decoder's report pushes at most one frame. -/
theorem applyDec_ran (s : State) (r : Dec × DecOut) :
    ∃ pushed : List Word, pushed.length ≤ 1 ∧ Ran s (s.applyDec r) [] [] pushed [] := by
  obtain ⟨d, out⟩ := r
  have hdec : Ran s (s.setDec d) [] [] [] [] := (Ran.refl s).setDec d
  cases out with
  | frame f => exact ⟨[f], by simp, (hdec.trans (ran_pushFrame _ f)).setRegs _⟩
  | nothing => exact ⟨[], by simp, hdec⟩
  | discard => exact ⟨[], by simp, hdec.setRegs _⟩
  | violation => exact ⟨[], by simp, hdec.setRegs _⟩

/-- R114: consuming a condition word pushes at most one frame and moves no condition. -/
theorem consume_ran {c : Code} {s t : State} (h : runWord (.cond c) s = .next t) :
    ∃ pushed : List Word, pushed.length ≤ 1 ∧ Ran s t [] [] pushed [] := by
  have hexec : exec (decodeCond c) s = .next t := h
  unfold decodeCond at hexec
  split at hexec
  case h_4 =>
    simp only [exec, execCondPause] at hexec
    split at hexec <;> cases hexec
    · exact ⟨[], by simp, .refl s⟩
    · exact applyDec_ran s _
  case h_10 =>
    cases hexec
    obtain ⟨pushed, hlen, hran⟩ := applyDec_ran s.raiseCondOvf (decOther s.dec)
    exact ⟨pushed, hlen, ((Ran.refl s).setRegs _).trans hran⟩
  all_goals
    cases hexec
    exact applyDec_ran s _

/-- The pop of the decoder takes the head of the condition channel. -/
theorem popCond_ran {s t : State} {c : Code} (h : s.popCond = some (c, t)) : Ran s t [] [c] [] [] := by
  obtain ⟨rest, hbuf, rfl⟩ := popCond_eq_some.mp h
  exact { cond := Chan.moved_pop hbuf, frame := .refl _ }

/-- R121: an OVERFLOW marker popped while disabled is reported in a register. -/
theorem Ran.reportDrained {s t : State} {a b : List Code} {c d : List Word} (h : Ran s t a b c d) (v : Code) :
    Ran s (t.reportDrained v) a b c d := by
  unfold State.reportDrained
  split
  · exact h.setRegs _
  · exact h

/-- R121: the decoder's step pops at most one condition and pushes at most one frame. -/
theorem decoderCycle_ran {a : DecAction} {s t : State} (h : decoderCycle a s = .next t) :
    ∃ (popped : List Code) (pushed : List Word), popped.length ≤ 1 ∧ pushed.length ≤ 1 ∧ Ran s t [] popped pushed [] := by
  cases a with
  | wait | stall =>
    cases h
    exact ⟨[], [], by simp, by simp, .refl s⟩
  | hold =>
    cases h
    exact ⟨[], [], by simp, by simp, (Ran.refl s).setDec _⟩
  | broken => cases h
  | drain c =>
    simp only [decoderCycle] at h
    split at h
    next d _ hpop =>
      cases h
      exact ⟨[d], [], by simp, by simp, ((popCond_ran hpop).reportDrained c).setDec _⟩
    next => cases h
  | consume c =>
    simp only [decoderCycle] at h
    split at h
    next d _ hpop =>
      obtain ⟨pushed, hlen, hran⟩ := consume_ran h
      exact ⟨[d], pushed, by simp, hlen, (popCond_ran hpop).trans hran⟩
    next => cases h

/-- R128: the transmitter's step moves no entry. -/
theorem txCycle_ran {busy : Bool} {s t : State} (h : txCycle busy s = .next t) : Ran s t [] [] [] [] := by
  simp only [txCycle, exec, execTxSegment] at h
  repeat' split at h
  all_goals cases h
  · exact ((Ran.refl s).setTx _).setRegs _
  · exact (Ran.refl s).setTx _
  · exact .refl s
  · exact .refl s

/-- R149: a `clk_sys` step pops at most one condition and pushes at most one frame. -/
theorem sysCycle_ran {s0 s t : State} (h : sysCycle s0 s = .next t) :
    ∃ (popped : List Code) (pushed : List Word), popped.length ≤ 1 ∧ pushed.length ≤ 1 ∧ Ran s t [] popped pushed [] := by
  obtain ⟨a, b, hhost, hdec, htx⟩ := sysCycle_eq_next.mp h
  obtain ⟨popped, pushed, hpop, hpush, hran⟩ := decoderCycle_ran hdec
  exact ⟨popped, pushed, hpop, hpush, by simpa using ((hostCycle_ran hhost).trans hran).trans (txCycle_ran htx)⟩

/-! ## One tick, one step -/

/-- The operations of a tick move at most one entry into and out of each channel; with the receive side off none goes into
the condition channel. -/
theorem tickOps_ran {s0 t : State} {k : Tick} (h : tickOps s0 k = .next t) :
    ∃ (condIn condOut : List Code) (frameIn frameOut : List Word), condIn.length ≤ 1 ∧ condOut.length ≤ 1 ∧
      frameIn.length ≤ 1 ∧ frameOut.length ≤ 1 ∧ (s0.rxEnView = false → condIn = []) ∧
      Ran s0 t condIn condOut frameIn frameOut := by
  obtain ⟨a, b, hcons, hrx, hsys⟩ := tickOps_eq_next.mp h
  have cons : ∃ out : List Word, out.length ≤ 1 ∧ Ran s0 a [] [] [] out := by
    split at hcons
    · exact consCycle_ran hcons
    · cases hcons
      exact ⟨[], by simp, .refl _⟩
  have rx : ∃ pushed : List Code, pushed.length ≤ 1 ∧ (a.rxEnView = false → pushed = []) ∧ Ran a b pushed [] [] [] := by
    split at hrx
    · exact rxCycle_ran hrx
    · cases hrx
      exact ⟨[], by simp, fun _ => rfl, .refl _⟩
  have sys : ∃ (popped : List Code) (pushed : List Word), popped.length ≤ 1 ∧ pushed.length ≤ 1 ∧
      Ran b t [] popped pushed [] := by
    split at hsys
    · exact sysCycle_ran hsys
    · cases hsys
      exact ⟨[], [], by simp, by simp, .refl _⟩
  obtain ⟨frameOut, hfo, consRan⟩ := cons
  obtain ⟨condIn, hci, hoff, rxRan⟩ := rx
  obtain ⟨condOut, frameIn, hco, hfi, sysRan⟩ := sys
  have hview : a.rxEnView = s0.rxEnView := congrArg (List.getLastD · false) consRan.enSync
  exact ⟨condIn, condOut, frameIn, frameOut, hci, hco, hfi, hfo, fun h0 => hoff (hview.trans h0),
    by simpa using (consRan.trans rxRan).trans sysRan⟩

/-! ## The synchronisers of a tick -/

/-- R56, R82, R101, R148: with the clock edges `k` each synchroniser shifts in a step of its viewing domain, and samples the
value that its source has at the start of the step, unless the draw says otherwise and fairness lets it. -/
structure Synchronised (s t : State) (k : Tick) : Prop where
  rxIn : t.rx.sync = k.rx.elim s.rx.sync fun e => stepBitSync (s.forced t).rxIn e.keepRxIn s.io.rxIn s.rx.sync
  rxEn : t.rx.enSync = k.rx.elim s.rx.enSync fun e => stepBitSync (s.forced t).rxEn e.keepRxEn s.regs.rxEn s.rx.enSync
  ccRead : t.cc.rsync = k.rx.elim s.cc.rsync fun e => stepCountSync (s.forced t).ccRead e.drawCcRead s.cc.rcnt s.cc.rsync
  active : t.views.rxActive = k.sys.elim s.views.rxActive fun e =>
    stepBitSync (s.forced t).active e.keepActive s.rxEnView s.views.rxActive
  drop : t.views.dropSync = k.sys.elim s.views.dropSync fun e =>
    stepDropSync (s.forced t).drop e.drawDrop s.rx.dropCnt s.views.dropSync
  ccWrite : t.cc.wsync = k.sys.elim s.cc.wsync fun e =>
    stepCountSync (s.forced t).ccWrite e.drawCcWrite s.cc.wcnt s.cc.wsync
  fcRead : t.fc.rsync = k.sys.elim s.fc.rsync fun e => stepCountSync (s.forced t).fcRead e.drawFcRead s.fc.rcnt s.fc.rsync
  fcWrite : t.fc.wsync = k.cons.elim s.fc.wsync fun e =>
    stepCountSync (s.forced t).fcWrite e.drawFcWrite s.fc.wcnt s.fc.wsync

/-- Without a clock edge every stage keeps its value. -/
theorem synchronised_of_stages {s t : State} (hsync : t.rx.sync = s.rx.sync) (hen : t.rx.enSync = s.rx.enSync)
    (hcc : t.cc = s.cc) (hfc : t.fc = s.fc) (hviews : t.views = s.views) : Synchronised s t default :=
  ⟨hsync, hen, by rw [hcc]; rfl, by rw [hviews]; rfl, by rw [hviews]; rfl, by rw [hcc]; rfl, by rw [hfc]; rfl,
    by rw [hfc]; rfl⟩

/-- `shiftAll` shifts the synchronisers of a state `u` that has those of `s0`. -/
theorem shiftAll_synchronised {s0 u : State} {a b : List Code} {c d : List Word} (h : Ran s0 u a b c d) (k : Tick) :
    Synchronised s0 (s0.shiftAll u k) k := by
  obtain ⟨hw, hr⟩ := h.condSync
  obtain ⟨hfw, hfr⟩ := h.frameSync
  obtain ⟨_ | _, _ | _, _ | _⟩ := k <;> constructor <;>
    simp [State.shiftAll, State.shiftRx, State.shiftSys, State.shiftCons, State.forced, State.fairAfter, State.rxEnView,
      h.sync, h.enSync, hw, hr, hfw, hfr, h.views]

/-- The synchronisers of a tick move no entry. -/
theorem shiftAll_moved (s0 s : State) (k : Tick) :
    s.cc.Moved (s0.shiftAll s k).cc [] [] ∧ s.fc.Moved (s0.shiftAll s k).fc [] [] := by
  obtain ⟨_ | _, _ | _, _ | _⟩ := k <;> exact ⟨⟨List.append_nil _, rfl, rfl⟩, ⟨List.append_nil _, rfl, rfl⟩⟩

/-- The latch of a step's inputs leaves the line and `rst`. -/
theorem latch_inputs (s : State) (k : Tick) : (s.latch k).io.rxIn = s.io.rxIn ∧ (s.latch k).io.rst = s.io.rst := by
  obtain ⟨rx, sys, cons⟩ := k
  obtain _ | _ := rx <;> obtain _ | ⟨_, _ | _, _, _, _, _⟩ := sys <;> obtain _ | _ := cons <;> exact ⟨rfl, rfl⟩

theorem fairAfter_latch (s t : State) (k : Tick) (rx sys cons : Bool) :
    (s.latch k).fairAfter t rx sys cons = s.fairAfter t rx sys cons := by
  simp [State.fairAfter, latch_inputs, State.rxEnView]

theorem latch_synchronised {s t : State} {k : Tick} (h : Synchronised (s.latch k) t k) : Synchronised s t k := by
  have hforced : (s.latch k).forced t = s.forced t := fairAfter_latch s t k false false false
  have hline : (s.latch k).io.rxIn = s.io.rxIn := (latch_inputs s k).1
  exact ⟨hline ▸ hforced ▸ h.rxIn, hforced ▸ h.rxEn, hforced ▸ h.ccRead, hforced ▸ h.active, hforced ▸ h.drop,
    hforced ▸ h.ccWrite, hforced ▸ h.fcRead, hforced ▸ h.fcWrite⟩

theorem settle_synchronised {s s0 t : State} {k : Tick} (h : Synchronised s t k) (rx sys cons : Bool) :
    Synchronised s (s0.settle t rx sys cons) k :=
  ⟨h.rxIn, h.rxEn, h.ccRead, h.active, h.drop, h.ccWrite, h.fcRead, h.fcWrite⟩

/-! ## One step -/

/-- The clock edges that a move brings to the block: none but those of a clock move, and none while `rst` is 1 (R166). -/
def tickOf (rst : Bool) (m : Move) : Tick :=
  match m with
  | .clock k => if rst then default else k
  | .line _ => default
  | .rst _ => default

/-- What a step with the clock edges `k` does, but for an assertion of `rst`: it moves at most one entry into and out of each
channel, shifts the synchronisers, and keeps the fairness record. With the receive side off no condition is pushed. -/
structure Stepped (s t : State) (k : Tick) : Prop where
  cond : ∃ pushed popped : List Code, pushed.length ≤ 1 ∧ popped.length ≤ 1 ∧ (s.rxEnView = false → pushed = []) ∧
    s.cc.Moved t.cc pushed popped
  frame : ∃ pushed popped : List Word, pushed.length ≤ 1 ∧ popped.length ≤ 1 ∧ s.fc.Moved t.fc pushed popped
  sync : Synchronised s t k
  fair : t.fair = s.fairAfter t k.rx.isSome k.sys.isSome k.cons.isSome
  rst : s.io.rst = false → t.io.rst = false

/-- A step in which nothing but a port moves, the fairness record included. -/
theorem stepped_of_idle {s t : State} (hrx : t.rx = s.rx) (hcc : t.cc = s.cc) (hfc : t.fc = s.fc)
    (hviews : t.views = s.views) (hfair : t.fair = s.fairAfter t false false false)
    (hrst : s.io.rst = false → t.io.rst = false) : Stepped s t default where
  cond := ⟨[], [], by simp, by simp, fun _ => rfl, hcc ▸ .refl _⟩
  frame := ⟨[], [], by simp, by simp, hfc ▸ .refl _⟩
  sync := synchronised_of_stages (by rw [hrx]) (by rw [hrx]) hcc hfc hviews
  fair := hfair
  rst := hrst

/-- While nothing moves and no domain steps, the fairness record stays. -/
theorem fairAfter_self (s : State) : s.fairAfter s false false false = s.fair := by
  simp [State.fairAfter, settledAfter]

/-- R17, R56: the operations of a tick move the entries; then the synchronisers shift. -/
theorem clockStep_stepped {s t : State} {k : Tick} (h : clockStep s k = .next t) : Stepped s t k ∧ t.moves = s.moves := by
  obtain ⟨u, hops, rfl⟩ := clockStep_eq_next.mp h
  obtain ⟨condIn, condOut, frameIn, frameOut, hci, hco, hfi, hfo, hoff, hran⟩ := tickOps_ran hops
  obtain ⟨hcc, hfc⟩ := shiftAll_moved (s.latch k) u k
  have hrst : u.io.rst = s.io.rst := hran.inputs.2.trans (latch_inputs s k).2
  refine ⟨⟨⟨condIn, condOut, hci, hco, hoff, ?_⟩, ⟨frameIn, frameOut, hfi, hfo, ?_⟩, ?_, ?_, ?_⟩, ?_⟩
  · simpa using hran.cond.trans hcc
  · simpa using hran.frame.trans hfc
  · exact settle_synchronised (latch_synchronised (shiftAll_synchronised hran k)) _ _ _
  · exact fairAfter_latch s _ k _ _ _
  · intro h0
    simp [hrst, h0]
  · simp [hran.moves]

/-- The environment's next move is taken from `moves` or counted in `freeIdx`, the model's own fields. -/
theorem takeMove_eq (s : State) : ∃ (ms : List Move) (n : Nat), s.takeMove.2 = (s.setMoves ms).setFreeIdx n := by
  unfold State.takeMove
  split
  next rest _ => exact ⟨rest, s.freeIdx, rfl⟩
  next => exact ⟨s.moves, s.freeIdx + 1, rfl⟩

theorem stepped_of_takeMove {s t : State} {k : Tick} (h : Stepped s.takeMove.2 t k) : Stepped s t k := by
  obtain ⟨ms, n, htake⟩ := takeMove_eq s
  rw [htake] at h
  obtain ⟨hcond, hframe, ⟨h1, h2, h3, h4, h5, h6, h7, h8⟩, hfair, hrst⟩ := h
  exact ⟨hcond, hframe, ⟨h1, h2, h3, h4, h5, h6, h7, h8⟩, hfair, hrst⟩

/-- Everything a step does to the channels, the synchronisers and the record, but for an assertion of `rst`. -/
theorem step_stepped {s t : State} (hm : s.takeMove.1 ≠ .rst true) (h : step s = .next t) :
    Stepped s t (tickOf s.io.rst s.takeMove.1) ∧ t.moves = s.takeMove.2.moves := by
  obtain ⟨ms, n, htake⟩ := takeMove_eq s
  have hio : s.takeMove.2.io = s.io := by rw [htake]; rfl
  obtain ⟨l, hl, rfl⟩ | ⟨hl, -⟩ | ⟨hl, rfl⟩ | ⟨k, hl, hr, rfl⟩ | ⟨k, hl, hr, hk⟩ := applyMove_cases h
  case inl =>
    rw [hl]
    exact ⟨stepped_of_takeMove (stepped_of_idle rfl rfl rfl rfl rfl id), rfl⟩
  case inr.inl => exact absurd hl hm
  case inr.inr.inl =>
    rw [hl]
    exact ⟨stepped_of_takeMove (stepped_of_idle rfl rfl rfl rfl (fairAfter_self _).symm fun _ => rfl), rfl⟩
  case inr.inr.inr.inl =>
    have htick : tickOf s.io.rst s.takeMove.1 = default := by rw [hl, ← hio, hr]; rfl
    rw [htick]
    exact ⟨stepped_of_takeMove (stepped_of_idle rfl rfl rfl rfl (fairAfter_self _).symm id), rfl⟩
  case inr.inr.inr.inr =>
    have htick : tickOf s.io.rst s.takeMove.1 = k := by rw [hl, ← hio, hr]; rfl
    obtain ⟨hstepped, hmoves⟩ := clockStep_stepped hk
    rw [htick]
    exact ⟨stepped_of_takeMove hstepped, hmoves⟩

end Sys2Proof.Machine

section
open Sys2Proof Sys2Proof.Machine

/-- Settles O49: the entries that a step moves are those of `Stepped`. -/
theorem channelsAreFirstInFirstOut : Obligations.ChannelsAreFirstInFirstOut := by
  intro s t hm h
  obtain ⟨condIn, condOut, hci, hco, -, hcond⟩ := (step_stepped hm h).1.cond
  obtain ⟨frameIn, frameOut, hfi, hfo, hframe⟩ := (step_stepped hm h).1.frame
  exact ⟨⟨condIn, condOut, hci, hco, hcond.entries, hcond.wcnt, hcond.rcnt⟩,
    ⟨frameIn, frameOut, hfi, hfo, hframe.entries, hframe.wcnt, hframe.rcnt⟩⟩

end
end

section
/-! PROOF. The eight synchronisers (R56, R57): what a sample may be, what every stage shows while the source stays unchanged,
and O50 and O51 from both. -/

namespace Sys2Proof.Machine

/-! ## Stages -/

/-- A shift puts the sample in front of the stages and lets the last one go. -/
theorem getElem?_shiftIn {α : Type} (x : α) (l : List α) (j : Nat) :
    (shiftIn x l)[j]? = if j < l.length then (x :: l)[j]? else none := by
  simp [shiftIn, List.getElem?_dropLast]

theorem headD_eq_of_getElem? {α : Type} {l : List α} {x d : α} (h : l[0]? = some x) : l.headD d = x := by
  cases l with
  | nil => cases h
  | cons y rest => exact Option.some.inj h

/-- R55: the view is the last stage. -/
theorem getLastD_eq_of_getElem? {α : Type} {l : List α} {x d : α} (h : l[l.length - 1]? = some x) : l.getLastD d = x := by
  rw [List.getLastD_eq_getLast?, List.getLast?_eq_getElem?, h, Option.getD_some]

theorem getElem?_last {α : Type} {l : List α} (d : α) (h : l ≠ []) : l[l.length - 1]? = some (l.getLastD d) := by
  rw [List.getLastD_eq_getLast?, ← List.getLast?_eq_getElem?, List.getLast?_eq_getLast_of_ne_nil h]
  rfl

/-- R56: a bit's sample is the source's value or the one that stage 0 holds. -/
theorem sampleBit_cases (settled keep src old : Bool) :
    sampleBit settled keep src old = src ∨ sampleBit settled keep src old = old := by
  unfold sampleBit
  split
  · exact .inl rfl
  · exact .inr rfl

/-- A count that stage 0 has reached, or that fairness forces, is the sample. -/
theorem sampleCount_eq_src {settled : Bool} {draw src old : Nat} (h : settled = true ∨ old = src) :
    sampleCount settled draw src old = src := by
  unfold sampleCount
  split
  · rfl
  · next hfree =>
    have hold : old = src := h.resolve_left hfree
    omega

/-! ## What the invariant says of the stages -/

/-- R10: a synchroniser has stages. -/
theorem Inv.syncStages_pos {s : State} (h : Inv s) : 0 < s.params.syncStages := by
  have hparams := h.params
  simp only [legalParams, Bool.and_eq_true, decide_eq_true_eq] at hparams
  omega

/-- R102 field by field. -/
theorem Chan.safe_iff {w : Nat} {c : Chan w} {stages depth : Nat} : c.safe stages depth = true ↔
    c.wsync.length = stages ∧ c.rsync.length = stages ∧ descends c.wcnt c.wsync c.rcnt = true ∧
      descends c.rcnt c.rsync (c.wcnt - depth) = true ∧ c.buf.length + c.rcnt = c.wcnt := by
  simp [Chan.safe, and_assoc]

/-! ## Samples -/

/-- R57: fairness forces the sample of a source that had settled and does not move in this step. -/
theorem forced_iff {α : Type} [BEq α] [LawfulBEq α] {was : Bool} {a b : α} :
    settledAfter false was (a == b) = true ↔ was = true ∧ a = b := by
  rw [settledAfter_eq_true, beq_iff_eq, and_comm]
  simp

/-- Log entry 5: the record of a source after a move. -/
theorem record_iff {α : Type} [BEq α] [LawfulBEq α] {viewed was : Bool} {a b : α} {P : Prop} (h : viewed = true ↔ P) :
    settledAfter viewed was (a == b) = true ↔ a = b ∧ (P ∨ was = true) := by
  rw [settledAfter_eq_true, beq_iff_eq, h]

/-- R56: a count's sample lies between the value that stage 0 holds and the source's. -/
theorem sampleCount_between {settled : Bool} {draw src old : Nat} (h : old ≤ src) :
    old ≤ sampleCount settled draw src old ∧ sampleCount settled draw src old ≤ src := by
  unfold sampleCount
  split <;> omega

/-- R56: every draw in that range is admitted where fairness does not force the source's value. -/
theorem sampleCount_free {draw src old : Nat} (hlo : old ≤ draw) (hhi : draw ≤ src) :
    sampleCount false draw src old = draw := by
  rw [sampleCount, if_neg (by decide)]
  omega

section
variable {keep src : Bool} {forced : Bool} {old : List Bool}

theorem stepBitSync_within : ∃ b, (b = src ∨ b = old.headD false) ∧ stepBitSync forced keep src old = (b :: old).dropLast :=
  ⟨_, sampleBit_cases _ _ _ _, rfl⟩

theorem stepBitSync_draw {P : Prop} [Decidable P] (h : forced = true ↔ P) : stepBitSync forced keep src old =
    ((if P then src else if keep then old.headD false else src) :: old).dropLast := by
  have hsample : sampleBit forced keep src (old.headD false) = if P then src else if keep then old.headD false else src := by
    simp only [← h]
    cases forced <;> cases keep <;> rfl
  rw [stepBitSync, hsample, shiftIn]

end

section
variable {forced : Bool} {draw src : Nat} {old : List Nat}

theorem stepCountSync_within : ∃ n, (old.headD 0 ≤ src → old.headD 0 ≤ n ∧ n ≤ src) ∧
    stepCountSync forced draw src old = (n :: old).dropLast :=
  ⟨_, sampleCount_between, rfl⟩

theorem stepCountSync_draw {P : Prop} [Decidable P] (h : forced = true ↔ P) :
    if P then stepCountSync forced draw src old = (src :: old).dropLast
    else old.headD 0 ≤ draw → draw ≤ src → stepCountSync forced draw src old = (draw :: old).dropLast := by
  split
  next hP => rw [stepCountSync, sampleCount_eq_src (.inl (h.mpr hP)), shiftIn]
  next hP =>
    intro hlo hhi
    have hfree : forced = false := Bool.eq_false_iff.mpr fun hf => hP (h.mp hf)
    rw [stepCountSync, hfree, sampleCount_free hlo hhi, shiftIn]

end

/-- The stages of `drop_sync` are 16 bits wide, and so are its samples: it is a count's synchroniser (R33, R56). -/
theorem map_toNat_stepDropSync (forced : Bool) (draw : Nat) (src : Half) (old : List Half) :
    (stepDropSync forced draw src old).map BitVec.toNat = stepCountSync forced draw src.toNat (old.map BitVec.toNat) := by
  have hhead : (old.map BitVec.toNat).headD 0 = (old.headD 0).toNat := by cases old <;> rfl
  have hlt : sampleCount forced draw src.toNat (old.headD 0).toNat < 2 ^ 16 := by
    have hsrc := src.isLt
    have hold := (old.headD 0).isLt
    unfold sampleCount
    split <;> omega
  rw [stepDropSync, stepCountSync, hhead, shiftIn, shiftIn, List.map_dropLast, List.map_cons, BitVec.toNat_ofNat,
    Nat.mod_eq_of_lt hlt]

section
variable {forced : Bool} {draw : Nat} {src : Half} {old : List Half}

theorem stepDropSync_within : ∃ n, ((old.map BitVec.toNat).headD 0 ≤ src.toNat →
      (old.map BitVec.toNat).headD 0 ≤ n ∧ n ≤ src.toNat) ∧
    (stepDropSync forced draw src old).map BitVec.toNat = (n :: old.map BitVec.toNat).dropLast := by
  rw [map_toNat_stepDropSync]
  exact stepCountSync_within

theorem stepDropSync_draw {P : Prop} [Decidable P] (h : forced = true ↔ P) :
    if P then (stepDropSync forced draw src old).map BitVec.toNat = (src.toNat :: old.map BitVec.toNat).dropLast
    else (old.map BitVec.toNat).headD 0 ≤ draw → draw ≤ src.toNat →
      (stepDropSync forced draw src old).map BitVec.toNat = (draw :: old.map BitVec.toNat).dropLast := by
  rw [map_toNat_stepDropSync]
  exact stepCountSync_draw h

end

/-! ## The steps of a domain -/

/-- A placed clock edge while `rst` is 0 is a step with those edges. -/
theorem stepped_of_clock {s t : State} {k : Tick} {rest : List Move} (hm : s.moves = .clock k :: rest)
    (hr : s.io.rst = false) (h : step s = .next t) : Stepped s t k := by
  have hmove : s.takeMove.1 = .clock k := by rw [takeMove_of_moves hm]
  have hstep := (step_stepped (by rw [hmove]; exact nofun) h).1
  rwa [hmove, hr] at hstep

/-! The domains that step are those whose edges the move brings while `rst` is 0 (R166). -/

theorem tickOf_rx (rst : Bool) (m : Move) : (tickOf rst m).rx.isSome = (!rst && Move.rxEdge m) := by
  cases m <;> cases rst <;> rfl

theorem tickOf_sys (rst : Bool) (m : Move) : (tickOf rst m).sys.isSome = (!rst && Move.sysEdge m) := by
  cases m <;> cases rst <;> rfl

theorem tickOf_cons (rst : Bool) (m : Move) : (tickOf rst m).cons.isSome = (!rst && Move.consEdge m) := by
  cases m <;> cases rst <;> rfl

end Sys2Proof.Machine

section
open Sys2Proof Sys2Proof.Machine

/-- Settles O50: the shifts and the draws are those of `Synchronised`, and the record is that of `Stepped`. -/
theorem synchronisersSampleWithinTheDraw : Obligations.SynchronisersSampleWithinTheDraw := by
  refine ⟨fun s t k rest hm hr h => ?shifts, fun s t hm h => ?record⟩
  case shifts =>
    have hs : Synchronised s t k := (stepped_of_clock hm hr h).sync
    intro bit count
    refine ⟨?rx, ?sys, ?cons, ?draws⟩
    case rx =>
      rw [hs.rxIn, hs.rxEn, hs.ccRead]
      cases k.rx with
      | none => exact ⟨rfl, rfl, rfl⟩
      | some e => exact ⟨stepBitSync_within, stepBitSync_within, stepCountSync_within⟩
    case sys =>
      have hviews : t.views = ⟨t.views.rxActive, t.views.dropSync⟩ := rfl
      rw [hs.ccWrite, hs.fcRead, hviews, hs.active, hs.drop]
      cases k.sys with
      | none => exact ⟨rfl, rfl, rfl⟩
      | some e => exact ⟨stepBitSync_within, stepCountSync_within, stepCountSync_within, stepDropSync_within⟩
    case cons =>
      rw [hs.fcWrite]
      cases k.cons with
      | none => rfl
      | some e => exact stepCountSync_within
    case draws =>
      intro bitDraw countDraw
      refine ⟨fun e hk => ?rxDraws, fun e hk => ?sysDraws, fun e hk => ?consDraw⟩
      case rxDraws =>
        rw [hs.rxIn, hs.rxEn, hs.ccRead, hk]
        exact ⟨stepBitSync_draw forced_iff, stepBitSync_draw forced_iff, stepCountSync_draw forced_iff⟩
      case sysDraws =>
        rw [hs.active, hs.ccWrite, hs.fcRead, hs.drop, hk]
        exact ⟨stepBitSync_draw forced_iff, stepCountSync_draw forced_iff, stepCountSync_draw forced_iff,
          stepDropSync_draw (forced_iff.trans (and_congr_right' BitVec.toNat_inj.symm))⟩
      case consDraw =>
        rw [hs.fcWrite, hk]
        exact stepCountSync_draw forced_iff
  case record =>
    have stepped {viewed edge : Bool} (hv : viewed = (!s.io.rst && edge)) :
        viewed = true ↔ s.io.rst = false ∧ edge = true := by simp [hv]
    have hrx := stepped (tickOf_rx s.io.rst s.takeMove.1)
    have hsys := stepped (tickOf_sys s.io.rst s.takeMove.1)
    have hcons := stepped (tickOf_cons s.io.rst s.takeMove.1)
    rw [(step_stepped hm h).1.fair]
    exact ⟨record_iff hrx, record_iff hrx, record_iff hrx, record_iff hsys, record_iff hsys, record_iff hsys,
      record_iff hsys, record_iff hcons⟩

end
end

section
/-! PROOF. A source that stays unchanged (R57): the record settles in the first step of the viewing domain, stage 0 samples the
source in the second, and each further step hands the value on by one stage. O51. -/

namespace Sys2Proof.Machine

/-! ## A synchroniser -/

/-- A synchroniser as R55 to R57 describe it: its source, its stages, whether the record has the source settled, the edges of
its viewing domain among the moves and in a tick, and what stage 0 samples in a step from one state to another. -/
structure Synchroniser (α ε : Type) where
  source : State → α
  stages : State → List α
  settled : State → Bool
  edge : Move → Bool
  domain : Tick → Option ε
  sample : State → State → ε → α

/-- R56, R57: the stages shift in the steps of the viewing domain and in no others; the sample of a settled source that does not
move is its value; and a source that does not move is settled by a step of the domain, and stays so. -/
structure Synchroniser.Lawful {α ε : Type} (y : Synchroniser α ε) : Prop where
  edge : ∀ m, (y.domain (tickOf false m)).isSome = y.edge m
  shift : ∀ {s t : State} {k : Tick}, Stepped s t k →
    y.stages t = (y.domain k).elim (y.stages s) fun e => shiftIn (y.sample s t e) (y.stages s)
  forced : ∀ {s t : State} {e : ε}, y.settled s = true → y.source t = y.source s → y.sample s t e = y.source s
  record : ∀ {s t : State} {k : Tick}, Stepped s t k → y.source t = y.source s →
    (y.domain k).isSome = true ∨ y.settled s = true → y.settled t = true

/-- What `n` steps of the viewing domain have made of an unchanged source: it is settled after one, and each stage that the
second and later ones have reached holds it. -/
structure Synchroniser.Seen {α ε : Type} (y : Synchroniser α ε) (n : Nat) (s : State) : Prop where
  settled : 1 ≤ n → y.settled s = true
  holds : ∀ i, i < (y.stages s).length → i + 2 ≤ n → (y.stages s)[i]? = some (y.source s)

section
variable {α ε : Type} {y : Synchroniser α ε}

theorem Synchroniser.seen_zero (s : State) : y.Seen 0 s := ⟨by omega, by omega⟩

theorem Synchroniser.Seen.next (hy : y.Lawful) {n : Nat} {s t : State} {k : Tick} (hs : y.Seen n s) (h : Stepped s t k)
    (hsrc : y.source t = y.source s) :
    y.Seen (n + if (y.domain k).isSome then 1 else 0) t ∧ (y.stages t).length = (y.stages s).length := by
  have hrecord := hy.record h hsrc
  have hstages := hy.shift h
  cases hk : y.domain k with
  | none =>
    replace hstages : y.stages t = y.stages s := by rw [hstages, hk]; rfl
    refine ⟨⟨fun hn => hrecord (.inr (hs.settled hn)), fun i hi hn => ?_⟩, by rw [hstages]⟩
    rw [hstages] at hi ⊢
    rw [hsrc]
    exact hs.holds i hi hn
  | some e =>
    replace hstages : y.stages t = shiftIn (y.sample s t e) (y.stages s) := by rw [hstages, hk]; rfl
    refine ⟨⟨fun _ => hrecord (.inl (by rw [hk]; rfl)), fun i hi hn => ?_⟩, by rw [hstages, length_shiftIn]⟩
    rw [hstages, length_shiftIn] at hi
    rw [Option.isSome_some, if_pos rfl] at hn
    rw [hstages, hsrc, getElem?_shiftIn, if_pos hi]
    cases i with
    | zero => exact congrArg some (hy.forced (hs.settled (by omega)) hsrc)
    | succ i => exact hs.holds i (by omega) (by omega)

/-- A run that succeeds begins with a step that does. -/
theorem step_of_run {n : Nat} {s t : State} (h : Host.Core.run Sys2Proof.core (n + 1) s = .next t) :
    ∃ u, step s = .next u ∧ Host.Core.run Sys2Proof.core n u = .next t := by
  have hstep : Sys2Proof.core.step s = step s := rfl
  simp only [Host.Core.run, hstep] at h
  split at h
  next u hu => exact ⟨u, hu, h⟩
  next => cases h
  next => cases h

/-- Along the moves `ms` the steps of the viewing domain add up. -/
theorem Synchroniser.Seen.along (hy : y.Lawful) {rest : List Move} : ∀ (ms : List Move) {n : Nat} {s t : State},
    y.Seen n s → s.io.rst = false → .rst true ∉ ms → s.moves = ms ++ rest → StaysDuring s ms.length y.source →
    Host.Core.run Sys2Proof.core ms.length s = .next t →
    y.Seen (n + ms.countP y.edge) t ∧ (y.stages t).length = (y.stages s).length
  | [], n, s, t, hs, _, _, _, _, hrun => by
    cases hrun
    exact ⟨hs, rfl⟩
  | m :: ms, n, s, t, hs, hr, hno, hmoves, hstay, hrun => by
    obtain ⟨u, hu, hrun⟩ := step_of_run hrun
    obtain ⟨hsrc, hstay⟩ := hstay.of_step hu
    obtain ⟨hfirst, hno⟩ := not_or.mp (mt List.mem_cons.mpr hno)
    have htake : s.takeMove = (m, s.setMoves (ms ++ rest)) := takeMove_of_moves hmoves
    have hm : s.takeMove.1 ≠ .rst true := by
      rw [htake]
      exact Ne.symm hfirst
    obtain ⟨hstepped, hrest⟩ := step_stepped hm hu
    rw [htake] at hstepped hrest
    obtain ⟨hseen, hlen⟩ := hs.next hy hstepped hsrc
    obtain ⟨hend, hlen'⟩ := Seen.along hy ms hseen (hstepped.rst hr) hno hrest hstay hrun
    rw [hr, hy.edge] at hend
    rw [List.countP_cons, Nat.add_comm (ms.countP y.edge), ← Nat.add_assoc]
    exact ⟨hend, hlen'.trans hlen⟩

/-- R57: at the end each stage that the steps of the viewing domain have reached holds the source, and so does the view after one
step more than there are stages. -/
theorem Synchroniser.Lawful.held (hy : y.Lawful) {s t : State} {ms rest : List Move} {L : Nat} (d : α)
    (hL : (y.stages s).length = L) (hpos : 0 < L) (hr : s.io.rst = false) (hno : .rst true ∉ ms)
    (hmoves : s.moves = ms ++ rest) (hrun : Host.Core.run Sys2Proof.core ms.length s = .next t)
    (hstay : StaysDuring s ms.length y.source) :
    (∀ i, i < L → i + 2 ≤ ms.countP y.edge → (y.stages t)[i]? = some (y.source t)) ∧
    (L + 1 ≤ ms.countP y.edge → (y.stages t).getLastD d = y.source t) := by
  obtain ⟨hseen, hlen⟩ := (seen_zero s).along hy ms hr hno hmoves hstay hrun
  rw [Nat.zero_add] at hseen
  exact ⟨fun i hi hn => hseen.holds i (by omega) hn,
    fun hn => getLastD_eq_of_getElem? (hseen.holds _ (by omega) (by omega))⟩

end

/-! ## The eight synchronisers -/

theorem sampleBit_eq_src {settled keep src old : Bool} (h : settled = true) : sampleBit settled keep src old = src := by
  rw [h]; rfl

theorem sampleDrop_eq_src {settled : Bool} {draw : Nat} {src old : Half} (h : settled = true) :
    BitVec.ofNat 16 (sampleCount settled draw src.toNat old.toNat) = src := by
  rw [sampleCount_eq_src (.inl h), BitVec.ofNat_toNat, BitVec.setWidth_eq]

section
variable {α : Type} (source : State → α) (stages : State → List α) (settled : State → Bool)

/-- A synchroniser that `clk_rx` views. -/
def rxSynchroniser (sample : State → State → RxEdge → α) : Synchroniser α RxEdge :=
  { source, stages, settled, edge := Move.rxEdge, domain := Tick.rx, sample }

/-- A synchroniser that `clk_sys` views. -/
def sysSynchroniser (sample : State → State → SysEdge → α) : Synchroniser α SysEdge :=
  { source, stages, settled, edge := Move.sysEdge, domain := Tick.sys, sample }

/-- A synchroniser that `clk_cons` views. -/
def consSynchroniser (sample : State → State → ConsEdge → α) : Synchroniser α ConsEdge :=
  { source, stages, settled, edge := Move.consEdge, domain := Tick.cons, sample }

end

/-- `rx_sync` (R22). -/
def lineSync : Synchroniser Bool RxEdge :=
  rxSynchroniser (·.io.rxIn) (·.rx.sync) (·.fair.rxIn) fun s t e =>
    sampleBit (s.forced t).rxIn e.keepRxIn s.io.rxIn (s.rx.sync.headD false)

theorem lineSync_lawful : lineSync.Lawful where
  edge := tickOf_rx false
  shift h := h.sync.rxIn
  forced hs hsrc := sampleBit_eq_src (forced_iff.mpr ⟨hs, hsrc⟩)
  record h hsrc hor := (congrArg Fair.rxIn h.fair).trans ((record_iff .rfl).mpr ⟨hsrc, hor⟩)

/-- `rx_en_s` (R23). -/
def enableSync : Synchroniser Bool RxEdge :=
  rxSynchroniser (·.regs.rxEn) (·.rx.enSync) (·.fair.rxEn) fun s t e =>
    sampleBit (s.forced t).rxEn e.keepRxEn s.regs.rxEn (s.rx.enSync.headD false)

theorem enableSync_lawful : enableSync.Lawful where
  edge := tickOf_rx false
  shift h := h.sync.rxEn
  forced hs hsrc := sampleBit_eq_src (forced_iff.mpr ⟨hs, hsrc⟩)
  record h hsrc hor := (congrArg Fair.rxEn h.fair).trans ((record_iff .rfl).mpr ⟨hsrc, hor⟩)

/-- `cc.rsync` (R30). -/
def condReadSync : Synchroniser Nat RxEdge :=
  rxSynchroniser (·.cc.rcnt) (·.cc.rsync) (·.fair.ccRead) fun s t e =>
    sampleCount (s.forced t).ccRead e.drawCcRead s.cc.rcnt (s.cc.rsync.headD 0)

theorem condReadSync_lawful : condReadSync.Lawful where
  edge := tickOf_rx false
  shift h := h.sync.ccRead
  forced hs hsrc := sampleCount_eq_src (.inl (forced_iff.mpr ⟨hs, hsrc⟩))
  record h hsrc hor := (congrArg Fair.ccRead h.fair).trans ((record_iff .rfl).mpr ⟨hsrc, hor⟩)

/-- `rx_active_s` (R32). -/
def activeSync : Synchroniser Bool SysEdge :=
  sysSynchroniser State.rxEnView (·.views.rxActive) (·.fair.active) fun s t e =>
    sampleBit (s.forced t).active e.keepActive s.rxEnView (s.views.rxActive.headD false)

theorem activeSync_lawful : activeSync.Lawful where
  edge := tickOf_sys false
  shift h := h.sync.active
  forced hs hsrc := sampleBit_eq_src (forced_iff.mpr ⟨hs, hsrc⟩)
  record h hsrc hor := (congrArg Fair.active h.fair).trans ((record_iff .rfl).mpr ⟨hsrc, hor⟩)

/-- `cc.wsync` (R30). -/
def condWriteSync : Synchroniser Nat SysEdge :=
  sysSynchroniser (·.cc.wcnt) (·.cc.wsync) (·.fair.ccWrite) fun s t e =>
    sampleCount (s.forced t).ccWrite e.drawCcWrite s.cc.wcnt (s.cc.wsync.headD 0)

theorem condWriteSync_lawful : condWriteSync.Lawful where
  edge := tickOf_sys false
  shift h := h.sync.ccWrite
  forced hs hsrc := sampleCount_eq_src (.inl (forced_iff.mpr ⟨hs, hsrc⟩))
  record h hsrc hor := (congrArg Fair.ccWrite h.fair).trans ((record_iff .rfl).mpr ⟨hsrc, hor⟩)

/-- `fc.rsync` (R30). -/
def frameReadSync : Synchroniser Nat SysEdge :=
  sysSynchroniser (·.fc.rcnt) (·.fc.rsync) (·.fair.fcRead) fun s t e =>
    sampleCount (s.forced t).fcRead e.drawFcRead s.fc.rcnt (s.fc.rsync.headD 0)

theorem frameReadSync_lawful : frameReadSync.Lawful where
  edge := tickOf_sys false
  shift h := h.sync.fcRead
  forced hs hsrc := sampleCount_eq_src (.inl (forced_iff.mpr ⟨hs, hsrc⟩))
  record h hsrc hor := (congrArg Fair.fcRead h.fair).trans ((record_iff .rfl).mpr ⟨hsrc, hor⟩)

/-- `drop_sync` (R33). -/
def dropSync : Synchroniser Half SysEdge :=
  sysSynchroniser (·.rx.dropCnt) (·.views.dropSync) (·.fair.drop) fun s t e =>
    BitVec.ofNat 16 (sampleCount (s.forced t).drop e.drawDrop s.rx.dropCnt.toNat (s.views.dropSync.headD 0).toNat)

theorem dropSync_lawful : dropSync.Lawful where
  edge := tickOf_sys false
  shift h := h.sync.drop
  forced hs hsrc := sampleDrop_eq_src (forced_iff.mpr ⟨hs, hsrc⟩)
  record h hsrc hor := (congrArg Fair.drop h.fair).trans ((record_iff .rfl).mpr ⟨hsrc, hor⟩)

/-- `fc.wsync` (R30). -/
def frameWriteSync : Synchroniser Nat ConsEdge :=
  consSynchroniser (·.fc.wcnt) (·.fc.wsync) (·.fair.fcWrite) fun s t e =>
    sampleCount (s.forced t).fcWrite e.drawFcWrite s.fc.wcnt (s.fc.wsync.headD 0)

theorem frameWriteSync_lawful : frameWriteSync.Lawful where
  edge := tickOf_cons false
  shift h := h.sync.fcWrite
  forced hs hsrc := sampleCount_eq_src (.inl (forced_iff.mpr ⟨hs, hsrc⟩))
  record h hsrc hor := (congrArg Fair.fcWrite h.fair).trans ((record_iff .rfl).mpr ⟨hsrc, hor⟩)

end Sys2Proof.Machine

section
open Sys2Proof Sys2Proof.Machine

/-- Settles O51: each of the eight synchronisers is lawful, and the invariant says how many stages it has. -/
theorem unchangedSourceIsHeld : Obligations.UnchangedSourceIsHeld := by
  intro s t ms rest hi hr hno hmoves hrun rxSteps sysSteps consSteps N
  have hN : 0 < N := hi.syncStages_pos
  obtain ⟨hline, henable⟩ := hi.rxStages
  obtain ⟨hcw, hcr, -⟩ := Chan.safe_iff.mp hi.cond
  obtain ⟨hfw, hfr, -⟩ := Chan.safe_iff.mp hi.frame
  obtain ⟨hdrop, -⟩ := hi.drop
  exact ⟨lineSync_lawful.held false hline hN hr hno hmoves hrun,
    enableSync_lawful.held false henable hN hr hno hmoves hrun,
    condReadSync_lawful.held 0 hcr hN hr hno hmoves hrun,
    activeSync_lawful.held false hi.active (Nat.succ_pos N) hr hno hmoves hrun,
    condWriteSync_lawful.held 0 hcw hN hr hno hmoves hrun,
    frameReadSync_lawful.held 0 hfr hN hr hno hmoves hrun,
    dropSync_lawful.held 0 hdrop hN hr hno hmoves hrun,
    frameWriteSync_lawful.held 0 hfw hN hr hno hmoves hrun⟩

end
end

section
/-! PROOF. Switching reception off (R59): the enable falls through its synchroniser in order, nothing is pushed once it has
fallen, and a stage of `rx_active_s` that has fallen stays behind the stage of `wsync` that has seen the last push. O59 and
O60. -/

namespace Sys2Proof.Machine

/-! ## An enable that falls -/

/-- No stage before a low one is high. -/
def FallsInOrder (l : List Bool) : Prop := ∀ i j : Nat, i ≤ j → l[j]? = some false → l[i]? = some false

/-- A low source, sampled or not, keeps the order. -/
theorem FallsInOrder.shiftIn {l : List Bool} (h : FallsInOrder l) {x : Bool} (hx : x = false ∨ x = l.headD false) :
    FallsInOrder (shiftIn x l) := by
  have hfirst : ∀ j, l[j]? = some false → x = false := fun j hj =>
    hx.elim id fun hkeep => hkeep.trans (headD_eq_of_getElem? (h 0 j (Nat.zero_le j) hj))
  intro i j hij hj
  rw [getElem?_shiftIn] at hj ⊢
  split at hj
  case isFalse => cases hj
  case isTrue hlen =>
    rw [if_pos (by omega)]
    match i, j with
    | 0, 0 => exact hj
    | 0, j + 1 => exact congrArg some (hfirst j hj)
    | i + 1, j + 1 => exact h i j (by omega) hj

/-- Once the view is low, every stage is. -/
theorem FallsInOrder.all_low {l : List Bool} (h : FallsInOrder l) (hview : l.getLastD false = false) :
    ∀ b ∈ l, b = false := by
  intro b hb
  obtain ⟨i, hi, rfl⟩ := List.mem_iff_getElem.mp hb
  have hlast : l[l.length - 1]? = some false := hview ▸ getElem?_last false (List.ne_nil_of_mem hb)
  have hlow := h i (l.length - 1) (by omega) hlast
  rw [List.getElem?_eq_getElem hi] at hlow
  exact Option.some.inj hlow

/-- Low stages with a low source stay low, and so does the view. -/
theorem getLastD_shiftIn_of_all_low {l : List Bool} (h : ∀ b ∈ l, b = false) {x : Bool}
    (hx : x = false ∨ x = l.headD false) : (shiftIn x l).getLastD false = false := by
  have hlow : x = false := hx.elim id fun hkeep => by
    cases l with
    | nil => exact hkeep
    | cons y rest => exact hkeep.trans (h y (by simp))
  have hmem : (shiftIn x l).getLastD false ∈ false :: shiftIn x l := List.getLastD_mem_cons
  obtain hd | hd := List.mem_cons.mp hmem
  · exact hd
  · obtain hd | hd := List.mem_cons.mp (List.mem_of_mem_dropLast hd)
    · exact hd.trans hlow
    · exact h _ hd

/-! ## A step of the drain -/

section
variable {s t : State} {k : Tick}

theorem Stepped.enSync_falls (h : Stepped s t k) (hd : Draining s) : FallsInOrder t.rx.enSync := by
  rw [h.sync.rxEn]
  cases k.rx with
  | none => exact hd.falling
  | some e =>
    exact FallsInOrder.shiftIn hd.falling ((sampleBit_cases _ _ _ _).imp_left (·.trans hd.off))

/-- R83: in a drain the receive side does not come on again. -/
theorem Stepped.rxEnView_low (h : Stepped s t k) (hd : Draining s) (hlow : s.rxEnView = false) : t.rxEnView = false := by
  unfold State.rxEnView
  rw [h.sync.rxEn]
  cases k.rx with
  | none => exact hlow
  | some e =>
    have hall : ∀ b ∈ s.rx.enSync, b = false := FallsInOrder.all_low hd.falling hlow
    exact getLastD_shiftIn_of_all_low hall ((sampleBit_cases _ _ _ _).imp_left (·.trans hd.off))

/-- R83: the receive side that is off pushes nothing. -/
theorem Stepped.wcnt_of_low (h : Stepped s t k) (hlow : s.rxEnView = false) : t.cc.wcnt = s.cc.wcnt := by
  obtain ⟨pushed, popped, -, -, hnone, hmoved⟩ := h.cond
  rw [hmoved.wcnt, hnone hlow, List.length_nil, Nat.add_zero]

theorem Stepped.ccWrite_record (h : Stepped s t k) :
    t.fair.ccWrite = settledAfter k.sys.isSome s.fair.ccWrite (t.cc.wcnt == s.cc.wcnt) := by
  rw [h.fair]; rfl

/-- A low stage 0 of `rx_active_s`, old or new, has sampled a receive side that is off. -/
theorem Draining.low_of_sample {s : State} (hd : Draining s) (hne : s.views.rxActive ≠ []) {x : Bool}
    (hx : x = s.rxEnView ∨ x = s.views.rxActive.headD false) (hlow : x = false) : s.rxEnView = false := by
  obtain rfl | hkeep := hx
  · exact hlow
  · obtain ⟨y, rest, hl⟩ := List.exists_cons_of_ne_nil hne
    have hy : y = x := by rw [hkeep, hl]; rfl
    have hfirst : s.views.rxActive[0]? = some false := by rw [hl, hy, hlow]; rfl
    exact (hd.reached 0 hfirst).1

/-- Where a stage of `rx_active_s` is low, stage 0 is. -/
theorem Draining.first_low {s : State} (hd : Draining s) {i : Nat} (hi : s.views.rxActive[i]? = some false) :
    s.views.rxActive[0]? = some false := by
  cases i with
  | zero => exact hi
  | succ i => exact ((hd.reached (i + 1) hi).2 0 (Nat.succ_pos i)).1

/-- Without an edge of `clk_sys` the views hold, and so does the count they wait for. -/
theorem Stepped.draining_of_no_sys (h : Stepped s t k) (hd : Draining s) (hoff : t.regs.rxEn = false)
    (hk : k.sys = none) : Draining t := by
  have hactive : t.views.rxActive = s.views.rxActive := by rw [h.sync.active, hk]; rfl
  have hwsync : t.cc.wsync = s.cc.wsync := by rw [h.sync.ccWrite, hk]; rfl
  refine ⟨hoff, h.enSync_falls hd, fun i hlow => ?_, fun hlow => ?_⟩ <;> rw [hactive] at hlow
  · obtain ⟨hview, hbefore⟩ := hd.reached i hlow
    refine ⟨h.rxEnView_low hd hview, fun j hj => ?_⟩
    rw [hactive, hwsync, h.wcnt_of_low hview]
    exact hbefore j hj
  · have hwcnt := h.wcnt_of_low (hd.reached 0 hlow).1
    rw [h.ccWrite_record, hk, hwsync, hwcnt]
    exact (hd.first hlow).imp_left fun hf => settledAfter_eq_true.mpr ⟨beq_self_eq_true _, .inr hf⟩

/-- With an edge of `clk_sys` the low stages of `rx_active_s` and the stages of `wsync` that have seen the last push move on
together; stage 0 of `wsync` sees it because the record of `wcnt` is settled, or has seen it already. -/
theorem Stepped.draining_of_sys (h : Stepped s t k) (hi : Inv s) (hd : Draining s) (hoff : t.regs.rxEn = false)
    {e : SysEdge} (hk : k.sys = some e) : Draining t := by
  obtain ⟨x, hx, hactive⟩ : ∃ x, (x = s.rxEnView ∨ x = s.views.rxActive.headD false) ∧
      t.views.rxActive = shiftIn x s.views.rxActive :=
    ⟨_, sampleBit_cases _ _ _ _, by rw [h.sync.active, hk]; rfl⟩
  obtain ⟨y, hy, hwsync⟩ : ∃ y, ((s.forced t).ccWrite = true ∨ s.cc.wsync.headD 0 = s.cc.wcnt → y = s.cc.wcnt) ∧
      t.cc.wsync = shiftIn y s.cc.wsync :=
    ⟨_, sampleCount_eq_src, by rw [h.sync.ccWrite, hk]; rfl⟩
  have hlenA : s.views.rxActive.length = s.params.syncStages + 1 := hi.active
  obtain ⟨hlenW, -⟩ := Chan.safe_iff.mp hi.cond
  have hne : s.views.rxActive ≠ [] := List.ne_nil_of_length_pos (by omega)
  have hview : x = false → s.rxEnView = false := hd.low_of_sample hne hx
  have hsample : s.views.rxActive[0]? = some false → x = false ∧ y = s.cc.wcnt := fun hfirst => by
    have hlow := (hd.reached 0 hfirst).1
    refine ⟨hx.elim (·.trans hlow) (·.trans (headD_eq_of_getElem? hfirst)), hy ?_⟩
    have hwcnt := h.wcnt_of_low hlow
    refine (hd.first hfirst).imp (fun hf => ?_) headD_eq_of_getElem?
    exact settledAfter_eq_true.mpr ⟨beq_iff_eq.mpr hwcnt, .inr hf⟩
  refine ⟨hoff, h.enSync_falls hd, fun i hlow => ?_, fun hlow => ?_⟩ <;> rw [hactive, getElem?_shiftIn] at hlow <;>
    split at hlow
  case refine_1.isTrue hlen =>
    match i, hlow with
    | 0, hlow => exact ⟨h.rxEnView_low hd (hview (Option.some.inj hlow)), fun j hj => absurd hj (Nat.not_lt_zero j)⟩
    | i + 1, hlow =>
      obtain ⟨hoffView, hbefore⟩ := hd.reached i hlow
      obtain ⟨hxlow, hycount⟩ := hsample (hd.first_low hlow)
      refine ⟨h.rxEnView_low hd hoffView, fun j hj => ?_⟩
      rw [hactive, hwsync, h.wcnt_of_low hoffView, getElem?_shiftIn, getElem?_shiftIn, if_pos (by omega),
        if_pos (by omega)]
      match j with
      | 0 => exact ⟨congrArg some hxlow, congrArg some hycount⟩
      | j + 1 => exact hbefore j (by omega)
  case refine_2.isTrue =>
    have hwcnt := h.wcnt_of_low (hview (Option.some.inj hlow))
    rw [h.ccWrite_record, hk, hwcnt]
    exact .inl (settledAfter_eq_true.mpr ⟨beq_self_eq_true _, .inl rfl⟩)
  all_goals cases hlow

theorem Stepped.draining (h : Stepped s t k) (hi : Inv s) (hd : Draining s) (hoff : t.regs.rxEn = false) : Draining t := by
  cases hk : k.sys with
  | none => exact h.draining_of_no_sys hd hoff hk
  | some e => exact h.draining_of_sys hi hd hoff hk

end

/-! ## Where a drain begins and ends -/

/-- R166, R167: right after reset every stage has fallen and every channel is empty. -/
theorem draining_assertRst {s : State} (hN : 0 < s.params.syncStages) : Draining s.assertRst := by
  have hen : s.assertRst.rx.enSync = List.replicate s.params.syncStages false := rfl
  have hactive : s.assertRst.views.rxActive = List.replicate (s.params.syncStages + 1) false := rfl
  have hwsync : s.assertRst.cc.wsync = List.replicate s.params.syncStages s.assertRst.cc.wcnt := rfl
  have hlow : s.assertRst.rxEnView = false := by
    rw [State.rxEnView, hen]
    exact getLastD_eq_of_getElem? (by simp [hN])
  refine ⟨rfl, fun i j hij hj => ?_, fun i hi => ⟨hlow, fun j hj => ?_⟩, fun _ => .inr ?_⟩
  · simp only [hen, List.getElem?_replicate] at hj ⊢
    split at hj
    · rw [if_pos (by omega)]
    · cases hj
  · simp only [hactive, hwsync, List.getElem?_replicate] at hi ⊢
    split at hi
    · rw [if_pos (by omega), if_pos (by omega)]
      exact ⟨rfl, rfl⟩
    · cases hi
  · rw [hwsync, List.getElem?_replicate, if_pos hN]

/-- R59: a drain begins with the enable up in every stage of both its synchronisers: no stage has fallen yet. -/
theorem draining_of_enabled {s : State} (hoff : s.regs.rxEn = false) (hen : s.rx.enSync.all (fun b => b) = true)
    (hactive : s.views.rxActive.all (fun b => b) = true) : Draining s := by
  have up : ∀ {l : List Bool} {i : Nat}, l.all (fun b => b) = true → l[i]? ≠ some false := fun hall hi =>
    absurd (List.all_eq_true.mp hall _ (List.mem_of_getElem? hi)) (by decide)
  exact ⟨hoff, fun _ _ _ hj => absurd hj (up hen), fun _ hi => absurd hi (up hactive), fun hi => absurd hi (up hactive)⟩

/-- R138: bit 0 of STATUS is RX_ACTIVE. -/
theorem status_bit_zero (s : State) : (s.regval 2).getLsbD 0 = s.rxActive := by
  change s.statusWord.getLsbD 0 = s.rxActive
  rw [State.statusWord, BitVec.getLsbD_append, if_pos Nat.one_pos]
  cases s.rxActive <;> rfl

theorem rxActive_eq_false {s : State} : s.rxActive = false ↔ s.activeView = false ∧ s.cc.wview = s.cc.rcnt := by
  simp [State.rxActive]

/-- R59, R61: RX_ACTIVE is 0 when the last stage of `rx_active_s` has fallen and the decoder sees no condition; the last stage
of `wsync` has then seen the last push. -/
theorem drained_of_not_rxActive {s : State} (hi : Inv s) (hd : Draining s) (h : s.rxActive = false) :
    s.rxEnView = false ∧ s.cc.wview = s.cc.wcnt ∧ s.cc.wcnt = s.cc.rcnt ∧ s.cc.buf = [] := by
  obtain ⟨hactive, hempty⟩ := rxActive_eq_false.mp h
  obtain ⟨hlenW, -, -, -, hbuf⟩ := Chan.safe_iff.mp hi.cond
  have hlenA := hi.active
  have hpos := hi.syncStages_pos
  have hlast : s.views.rxActive[s.views.rxActive.length - 1]? = some false :=
    hactive ▸ getElem?_last false (List.ne_nil_of_length_pos (by omega))
  obtain ⟨hlow, hbefore⟩ := hd.reached _ hlast
  have hview : s.cc.wview = s.cc.wcnt := getLastD_eq_of_getElem? (hbefore (s.cc.wsync.length - 1) (by omega)).2
  have hcount : s.cc.wcnt = s.cc.rcnt := hview.symm.trans hempty
  exact ⟨hlow, hview, hcount, List.length_eq_zero_iff.mp (by omega)⟩

end Sys2Proof.Machine

section
open Sys2Proof Sys2Proof.Machine

/-- Settles O59: an assertion of `rst` ends in the drained state, and every other step is `Stepped`. -/
theorem drainGoesOn : Obligations.DrainGoesOn := by
  refine ⟨fun s t hi hd h hoff => ?_, fun s => draining_of_enabled⟩
  by_cases hm : s.takeMove.1 = .rst true
  · obtain ⟨ms, n, htake⟩ := takeMove_eq s
    rw [step_eq, hm, htake] at h
    cases h
    exact draining_assertRst hi.syncStages_pos
  · exact (step_stepped hm h).1.draining hi hd hoff

/-- Settles O60: bit 0 of STATUS is RX_ACTIVE, and a drain without RX_ACTIVE is over. -/
theorem drainIsCompleteWhenRxActiveFalls : Obligations.DrainIsCompleteWhenRxActiveFalls := fun s hi hd h =>
  drained_of_not_rxActive hi hd ((status_bit_zero s).symm.trans h)

end
end

section
/-! PROOF. The host's address decoding (R49): the slot `bus_off[5:2]` selects the register, and `bus_off[1:0]` reaches no meaning.
O4. -/

namespace Sys2Proof.Machine

/-- R134: a write acts by its slot alone. -/
theorem exec_decodeWrite_of_slot {off off' : BitVec 6} (h : off >>> 2 = off' >>> 2) (v : Word) (s : State) :
    exec (decodeWrite off v) s = exec (decodeWrite off' v) s := by
  unfold decodeWrite
  rw [h]
  generalize (off' >>> 2).toNat = slot
  match slot with
  | 1 => exact (exec_ctrlWrite _ v s).trans (exec_ctrlWrite _ v s).symm
  | 0 | 2 | 3 | 4 | 5 | 6 | 7 | 8 | 9 | 10 | 11 | _ + 12 => rfl

section
variable (we : BitVec 1) (slot : BitVec 4) (x : BitVec 2)

/-! R77: the access code is `we` before the offset; R49: the slot is `bus_off[5:2]`. -/

theorem setWidth_code : (we ++ slot ++ x).setWidth 6 = slot ++ x := by
  apply BitVec.eq_of_getLsbD_eq
  intro i hi
  rw [BitVec.getLsbD_setWidth, decide_eq_true hi, Bool.true_and]
  simp only [BitVec.getLsbD_append]
  rw [if_pos (by omega : i - 2 < 4)]

theorem getLsbD_code : (we ++ slot ++ x).getLsbD 6 = we.getLsbD 0 := by
  rw [BitVec.getLsbD_append, if_neg (by decide), BitVec.getLsbD_append, if_neg (by decide)]

theorem shiftRight_offset : (slot ++ x : BitVec 6) >>> 2 = slot.setWidth 6 := by
  apply BitVec.eq_of_getLsbD_eq
  intro i hi
  rw [BitVec.getLsbD_ushiftRight, BitVec.getLsbD_append, if_neg (by omega), Nat.add_sub_cancel_left,
    BitVec.getLsbD_setWidth, decide_eq_true hi, Bool.true_and]

end

end Sys2Proof.Machine

section
open Sys2Proof Sys2Proof.Machine

/-- Settles O4: both directions act by the slot, and a read shows the slot's register. -/
theorem lowOffsetBitsAreIgnored : Obligations.LowOffsetBitsAreIgnored := by
  intro we slot x y v s
  have hslot : (slot ++ x : BitVec 6) >>> 2 = (slot ++ y : BitVec 6) >>> 2 :=
    (shiftRight_offset slot x).trans (shiftRight_offset slot y).symm
  simp only [decodeBus, setWidth_code, getLsbD_code]
  refine ⟨?sameSlot, ?noTrap, ?read⟩
  case sameSlot =>
    split
    · exact exec_decodeWrite_of_slot hslot v s
    · rw [exec_decodeRead, exec_decodeRead, hslot]
  case noTrap =>
    split
    · obtain ⟨t, ht, -⟩ := exec_decodeWrite (slot ++ x) v s
      exact ⟨t, ht⟩
    · exact ⟨_, exec_decodeRead _ s⟩
  case read =>
    rw [if_neg (by decide), exec_decodeRead, shiftRight_offset, BitVec.setWidth_setWidth_of_le _ (by decide),
      BitVec.setWidth_eq]
    rfl

end
end

section
/-! PROOF. The formats of R65 to R68 and R77: an access code is `we` before the offset, the offset is a slot before its two
low bits, and decoder and encoder are inverse slot by slot. O1, O2 and O3. -/

namespace Sys2Proof.Machine

/-! ## Words and their parts -/

/-- R66: an EDGE word is its level before its timestamp. -/
theorem level_append_stamp {e : BitVec 65} {level : Bool} (h : e.getLsbD 64 = level) :
    BitVec.ofBool level ++ e.setWidth 64 = e := h ▸ BitVec.cons_msb_setWidth e

/-- R77: an access code is `we` before the offset. -/
theorem we_append_offset {code : BitVec 7} {we : Bool} (h : code.getLsbD 6 = we) :
    BitVec.ofBool we ++ code.setWidth 6 = code := h ▸ BitVec.cons_msb_setWidth code

theorem busCode_eq (we : BitVec 1) (slot : BitVec 4) (x : BitVec 2) : busCode we slot x = we ++ (slot ++ x) :=
  BitVec.append_assoc

theorem busCodeHigh_eq (we : BitVec 1) (x : BitVec 4) : busCodeHigh we x = we ++ (3#2 ++ x) :=
  BitVec.append_assoc

/-- R49: an offset is its slot before its two low bits. -/
theorem slot_append_low (off : BitVec 6) : (off >>> 2).setWidth 4 ++ off.setWidth 2 = off := by
  rw [BitVec.setWidth_ushiftRight_eq_extractLsb, BitVec.setWidth_eq_extractLsb' (by decide)]
  exact BitVec.extractLsb'_append_extractLsb' (w := 4)

/-- R49: an offset whose slot is known, put together again. -/
theorem busCode_of_slot {off : BitVec 6} {slot : BitVec 4} (h : (off >>> 2).toNat = slot.toNat) (we : BitVec 1) :
    busCode we slot (off.setWidth 2) = we ++ off := by
  have hslot : (off >>> 2).setWidth 4 = slot := BitVec.eq_of_toNat_eq ((toNat_slot off).trans h)
  have hoff := slot_append_low off
  rw [hslot] at hoff
  rw [busCode_eq, hoff]

/-- R147: the same for the offsets from 0x30 on, whose two high bits are set. -/
theorem busCodeHigh_of_slot {off : BitVec 6} (h : 12 ≤ (off >>> 2).toNat) (we : BitVec 1) :
    busCodeHigh we (off.setWidth 4) = we ++ off := by
  have htop : off.extractLsb' 4 2 = 3#2 := by
    apply BitVec.eq_of_toNat_eq
    simp only [BitVec.extractLsb'_toNat, BitVec.toNat_ushiftRight, Nat.shiftRight_eq_div_pow, BitVec.toNat_ofNat] at h ⊢
    omega
  have hoff : off.extractLsb' 4 2 ++ off.extractLsb' 0 4 = off := BitVec.extractLsb'_append_extractLsb' (w := 2)
  rw [htop, ← BitVec.setWidth_eq_extractLsb' (by decide)] at hoff
  rw [busCodeHigh_eq, hoff]

/-! ## The decoder, undone by the encoder -/

/-- The operation is well formed, and its word is `w`: what is to be shown of every decoded word. -/
def EncodesTo (i : Instr) (w : PortWord) : Prop := wellFormed i = true ∧ encode i = some w

theorem EncodesTo.of_code {i : Instr} {c c' : BitVec 7} {v : Word} (h : EncodesTo i (.bus c v)) (hc : c = c') :
    EncodesTo i (.bus c' v) := hc ▸ h

theorem encodesTo_decodeEdge (e : BitVec 65) : EncodesTo (decodeEdge e) (.edge e) := by
  unfold decodeEdge
  cases hlevel : e.getLsbD 64 with
  | true => exact ⟨rfl, congrArg (fun e => some (PortWord.edge e)) (level_append_stamp (level := true) hlevel)⟩
  | false => exact ⟨rfl, congrArg (fun e => some (PortWord.edge e)) (level_append_stamp (level := false) hlevel)⟩

theorem encodesTo_decodeCond (c : Code) : EncodesTo (decodeCond c) (.cond c) := by
  unfold EncodesTo
  revert c
  decide

/-- R133, R147: slot by slot; the slots from 12 on share one operation. -/
theorem encodesTo_decodeRead (off : BitVec 6) : EncodesTo (decodeRead off) (.bus (0#1 ++ off) 0) := by
  unfold decodeRead
  generalize h : (off >>> 2).toNat = slot
  match slot with
  | 0 | 1 | 2 | 3 | 4 | 5 | 6 | 7 | 8 | 9 | 10 | 11 => exact .of_code ⟨rfl, rfl⟩ (busCode_of_slot h 0#1)
  | n + 12 => exact .of_code ⟨rfl, rfl⟩ (busCodeHigh_of_slot (by omega) 0#1)

/-- R79, R137: the start bit tells which of the two rows of a CTRL write has the word. -/
theorem encodesTo_ctrlWrite (x : BitVec 2) (v : Word) :
    EncodesTo (if v.getLsbD 1 then .txStart x v else .wrCtrl x v) (writeWord 1 x v) := by
  cases hstart : v.getLsbD 1 with
  | true => exact ⟨hstart, rfl⟩
  | false => exact ⟨congrArg (!·) hstart, rfl⟩

/-- R134, R147: slot by slot, the slot of CTRL with its two rows. -/
theorem encodesTo_decodeWrite (off : BitVec 6) (v : Word) : EncodesTo (decodeWrite off v) (.bus (1#1 ++ off) v) := by
  unfold decodeWrite
  generalize h : (off >>> 2).toNat = slot
  match slot with
  | 1 => exact (encodesTo_ctrlWrite (off.setWidth 2) v).of_code (busCode_of_slot h 1#1)
  | 0 | 2 | 3 | 4 | 5 | 6 | 7 | 8 | 9 | 10 | 11 => exact .of_code ⟨rfl, rfl⟩ (busCode_of_slot h 1#1)
  | n + 12 => exact .of_code ⟨rfl, rfl⟩ (busCodeHigh_of_slot (by omega) 1#1)

/-- R77: in either direction the access code comes back, and with it the data of a write. -/
theorem encodesTo_decodeBus (code : BitVec 7) (v : Word) :
    EncodesTo (decodeBus code v) (.bus code (if code.getLsbD 6 then v else 0)) := by
  unfold decodeBus
  cases hwe : code.getLsbD 6 with
  | true => exact (encodesTo_decodeWrite _ v).of_code (we_append_offset (we := true) hwe)
  | false => exact (encodesTo_decodeRead _).of_code (we_append_offset (we := false) hwe)

/-! ## The encoder, undone by the decoder -/

theorem decodeEdge_append (level : Bool) (t : Stamp) :
    decodeEdge (BitVec.ofBool level ++ t) = if level then .edgeRise t else .edgeFall t := by
  have hlevel : (BitVec.ofBool level ++ t).getLsbD 64 = level := by
    rw [BitVec.getLsbD_append, if_neg (by decide), Nat.sub_self, BitVec.getLsbD_ofBool]
    simp
  rw [decodeEdge, hlevel, BitVec.setWidth_append_eq_right]

/-- R77: `we` selects the direction, and the other six bits are the offset. -/
theorem decode_access (we : BitVec 1) (off : BitVec 6) (v : Word) :
    decode (.bus (we ++ off) v) = .ok (if we.getLsbD 0 then decodeWrite off v else decodeRead off) := by
  have hwe : (we ++ off : BitVec 7).getLsbD 6 = we.getLsbD 0 := by rw [BitVec.getLsbD_append, if_neg (by decide)]
  rw [decode, decodeBus, hwe, BitVec.setWidth_append_eq_right]

section
variable (slot : BitVec 4) (x : BitVec 2)

theorem decode_readWord : decode (readWord slot x) = .ok (decodeRead (slot ++ x)) := by
  rw [readWord, busCode_eq, decode_access]
  rfl

theorem decode_writeWord (v : Word) : decode (writeWord slot x v) = .ok (decodeWrite (slot ++ x) v) := by
  rw [writeWord, busCode_eq, decode_access]
  rfl

/-! R49: an offset of a slot has the slot's number and its own two low bits. -/

theorem toNat_slot_of_offset : ((slot ++ x : BitVec 6) >>> 2).toNat = slot.toNat := by
  rw [shiftRight_offset, BitVec.toNat_setWidth_of_le (by decide)]

theorem setWidth_offset : (slot ++ x : BitVec 6).setWidth 2 = x := BitVec.setWidth_append_eq_right

end

/-- R79: which of the two rows of a CTRL write it is. -/
theorem decode_ctrlWrite (x : BitVec 2) (v : Word) :
    decode (writeWord 1 x v) = .ok (if v.getLsbD 1 then .txStart x v else .wrCtrl x v) := by
  rw [decode_writeWord, decodeWrite, toNat_slot_of_offset, setWidth_offset]
  rfl

section
variable (x : BitVec 4)

/-! R147: the offsets from 0x30 on keep four low bits. -/

theorem toNat_slot_of_highOffset : ∃ n, ((3#2 ++ x : BitVec 6) >>> 2).toNat = n + 12 :=
  Nat.exists_eq_add_of_le' (by revert x; decide)

theorem decode_highRead (v : Word) : decode (.bus (busCodeHigh 0#1 x) v) = .ok (.rdUnmapped30to3c x) := by
  obtain ⟨n, hn⟩ := toNat_slot_of_highOffset x
  rw [busCodeHigh_eq, decode_access, decodeRead, hn, BitVec.setWidth_append_eq_right]
  rfl

theorem decode_highWrite (v : Word) : decode (.bus (busCodeHigh 1#1 x) v) = .ok (.wrUnmapped30to3c x v) := by
  obtain ⟨n, hn⟩ := toNat_slot_of_highOffset x
  rw [busCodeHigh_eq, decode_access, decodeWrite, hn, BitVec.setWidth_append_eq_right]
  rfl

end

end Sys2Proof.Machine

section
open Sys2Proof Sys2Proof.Machine

/-- Settles O1, by the constructors: a slot's number and an operand's bits are read from where the encoder put them. -/
theorem decodeOfEncodeGivesTheOperation : Obligations.DecodeOfEncodeGivesTheOperation := by
  intro i w hwf hw
  cases i with
  | pauseTimeout | txSegment | chPush _ | chPop _ => cases hw
  | framePop => cases hw; rfl
  | edgeRise t => cases hw; exact congrArg Except.ok (decodeEdge_append true t)
  | edgeFall t => cases hw; exact congrArg Except.ok (decodeEdge_append false t)
  | condMark | condSpace | condSync | condPause | condBadEdgeAfterStart | condBadEdgeAfterHigh | condBadEdgeAfterLow
  | condBadHighDuration | condBadLowDuration | condOverflow => cases hw; rfl
  | condReserved101x x | condReserved11xx x => cases hw; revert x; decide
  | rdId x | rdCtrl x | rdStatus x | rdIrqStatus x | rdIrqEnable x | rdTiming0 x | rdTiming1 x | rdRxcfg x | rdTxData x
  | rdCondDropCnt x | rdDecStats x | rdUnmapped2c x =>
    cases hw
    rw [decode_readWord, decodeRead, toNat_slot_of_offset, setWidth_offset]
    rfl
  | wrId x v | wrStatus x v | wrIrqStatus x v | wrIrqEnable x v | wrTiming0 x v | wrTiming1 x v | wrRxcfg x v
  | wrTxData x v | wrCondDropCnt x v | wrDecStats x v | wrUnmapped2c x v =>
    cases hw
    rw [decode_writeWord, decodeWrite, toNat_slot_of_offset, setWidth_offset]
    rfl
  | wrCtrl x v =>
    cases hw
    have hstart : v.getLsbD 1 = false := by simpa [wellFormed] using hwf
    rw [decode_ctrlWrite, hstart]
    rfl
  | txStart x v =>
    cases hw
    have hstart : v.getLsbD 1 = true := hwf
    rw [decode_ctrlWrite, hstart]
    rfl
  | rdUnmapped30to3c x => cases hw; exact decode_highRead x 0
  | wrUnmapped30to3c x v => cases hw; exact decode_highWrite x v

/-- Settles O2, port by port. -/
theorem encodeOfDecodeGivesTheWord : Obligations.EncodeOfDecodeGivesTheWord := by
  intro w i hi
  cases w with
  | edge e => cases hi; exact encodesTo_decodeEdge e
  | cond c => cases hi; exact encodesTo_decodeCond c
  | bus code v => cases hi; exact encodesTo_decodeBus code v
  | cons r =>
    cases r with
    | true => cases hi; exact ⟨rfl, rfl⟩
    | false => cases hi

/-- Settles O3, by running the decoder on each word. -/
theorem wordsOfTheSpecDecode : Obligations.WordsOfTheSpecDecode :=
  ⟨rfl, rfl, rfl, rfl, rfl, rfl, rfl, rfl, rfl, rfl⟩

end
end

section
/-! PROOF. The frame word and the wire word, bit by bit (R69 to R72): a field is a run of bits, and P exchanges the two bits
of `channel` and of `unit`. O5. -/

namespace Sys2Proof.Machine

/-! ## Bits -/

theorem getLsbD_frameWord (u c : BitVec 2) (st gr : Bool) (id : BitVec 26) (i : Nat) :
    (frameWord u c st gr id).getLsbD i =
      if i < 26 then id.getLsbD i
      else if i = 26 then gr
      else if i = 27 then st
      else if i < 30 then c.getLsbD (i - 28)
      else u.getLsbD (i - 30) := by
  simp only [frameWord, BitVec.getLsbD_append, BitVec.getLsbD_ofBool]
  grind

theorem getLsbD_permP (x : Word) (i : Nat) :
    (permP x).getLsbD i =
      if i < 28 then x.getLsbD i
      else if i = 28 then x.getLsbD 29
      else if i = 29 then x.getLsbD 28
      else if i = 30 then x.getLsbD 31
      else if i = 31 then x.getLsbD 30
      else false := by
  simp only [permP, BitVec.getLsbD_append, BitVec.getLsbD_extractLsb']
  grind

theorem permP_permP (x : Word) : permP (permP x) = x := by
  apply BitVec.eq_of_getLsbD_eq
  intro i hi
  simp only [getLsbD_permP]
  grind

/-! ## Fields -/

theorem getLsbD_stationId (f : Word) {i : Nat} (h : i < 26) : (stationId f).getLsbD i = f.getLsbD i := by
  simp [stationId, h]

theorem getLsbD_channel (f : Word) {i : Nat} (h : i < 2) : (channel f).getLsbD i = f.getLsbD (28 + i) := by
  simp [channel, h]

theorem getLsbD_unit (f : Word) {i : Nat} (h : i < 2) : (unit f).getLsbD i = f.getLsbD (30 + i) := by
  simp [unit, h]

section
variable (u c : BitVec 2) (st gr : Bool) (id : BitVec 26)

theorem stationId_frameWord : stationId (frameWord u c st gr id) = id := BitVec.extractLsb'_append_eq_right

theorem group_frameWord : group (frameWord u c st gr id) = gr := getLsbD_frameWord u c st gr id 26

theorem frameState_frameWord : frameState (frameWord u c st gr id) = st := getLsbD_frameWord u c st gr id 27

theorem channel_frameWord : channel (frameWord u c st gr id) = c := by
  apply BitVec.eq_of_getLsbD_eq
  intro i hi
  rw [getLsbD_channel _ hi, getLsbD_frameWord]
  grind

theorem unit_frameWord : unit (frameWord u c st gr id) = u := by
  apply BitVec.eq_of_getLsbD_eq
  intro i hi
  rw [getLsbD_unit _ hi, getLsbD_frameWord]
  grind

end

theorem frameWord_fields (f : Word) : frameWord (unit f) (channel f) (frameState f) (group f) (stationId f) = f := by
  apply BitVec.eq_of_getLsbD_eq
  intro i hi
  rw [getLsbD_frameWord]
  split_ifs with hid hgr hst hc
  · exact getLsbD_stationId f hid
  · rw [hgr]; rfl
  · rw [hst]; rfl
  · rw [getLsbD_channel f (by omega), Nat.add_sub_of_le (by omega)]
  · rw [getLsbD_unit f (by omega), Nat.add_sub_of_le (by omega)]

end Sys2Proof.Machine

section
open Sys2Proof Sys2Proof.Machine

/-- Settles O5, from the bits of a frame word, of its fields and of P. -/
theorem frameAndWireWordsAreRelatedByP : Obligations.FrameAndWireWordsAreRelatedByP := by
  refine ⟨?build, ?read, ?workedExample, ?readBuilt, frameWord_fields, permP_permP, ?low, ?high⟩
  case build => exact fun u c st gr id i _ => getLsbD_frameWord u c st gr id i
  case read =>
    exact fun f => ⟨fun i hi => getLsbD_stationId f hi, rfl, rfl, getLsbD_channel f (by decide),
      getLsbD_channel f (by decide), getLsbD_unit f (by decide), getLsbD_unit f (by decide)⟩
  case workedExample => decide
  case readBuilt =>
    exact fun u c st gr id => ⟨stationId_frameWord u c st gr id, group_frameWord u c st gr id,
      frameState_frameWord u c st gr id, channel_frameWord u c st gr id, unit_frameWord u c st gr id⟩
  case low => exact fun x i hi => (getLsbD_permP x i).trans (if_pos hi)
  case high => exact fun x => ⟨getLsbD_permP x 28, getLsbD_permP x 29, getLsbD_permP x 30, getLsbD_permP x 31⟩

end
end

section
/-! PROOF. The waveform of a telegram as the classifier sees it (R76, R88, R90, R126): 66 pulses of one unit, of which each
but the first ends a low phase of 10, 1 or 5 units, and so a Sync, Mark or Space. O43. -/

namespace Sys2Proof.Machine

/-! ## The segment table, by its low phases -/

theorem segMul_high (w : Word) {k : Nat} (h : k ≤ 65) : segMul w (2 * k) = 1 := by
  rw [segMul, if_pos (by omega)]

theorem segMul_startLow (w : Word) : segMul w 1 = 10 := rfl

theorem segMul_firstLow (w : Word) {i : Nat} (h : i < 32) :
    segMul w (2 * (2 * i + 1) + 1) = if w.getLsbD i then 1 else 5 := by
  have hbit : (2 * (2 * i + 1) + 1 - 2) / 4 = i := by omega
  have hhalf : (2 * (2 * i + 1) + 1 - 2) / 2 % 2 = 0 := by omega
  rw [segMul, if_neg (by omega), if_neg (by omega), if_pos (by omega), hbit, hhalf]
  simp [physBit]

theorem segMul_secondLow (w : Word) {i : Nat} (h : i < 32) :
    segMul w (2 * (2 * i + 2) + 1) = if w.getLsbD i then 5 else 1 := by
  have hbit : (2 * (2 * i + 2) + 1 - 2) / 4 = i := by omega
  have hhalf : (2 * (2 * i + 2) + 1 - 2) / 2 % 2 = 1 := by omega
  rw [segMul, if_neg (by omega), if_neg (by omega), if_pos (by omega), hbit, hhalf]
  cases hw : w.getLsbD i <;> simp [physBit, hw]

theorem segOffset_fall (w : Word) {k : Nat} (h : k ≤ 65) : segOffset w (2 * k + 1) = segOffset w (2 * k) + 1 := by
  rw [segOffset_succ, segMul_high w h]

/-- The two phases of a pulse: one unit high, and its low phase. -/
theorem segOffset_pulse (w : Word) {k : Nat} (h : k ≤ 65) :
    segOffset w (2 * (k + 1)) = segOffset w (2 * k) + 1 + segMul w (2 * k + 1) := by
  rw [← segOffset_fall w h, ← segOffset_succ]
  rfl

/-- R74, R75: a logical bit takes 8 units, whatever it is. -/
theorem segOffset_logicalBit (w : Word) {i : Nat} (h : i ≤ 32) : segOffset w (2 * (2 * i + 1)) = 11 + 8 * i := by
  induction i with
  | zero => rfl
  | succ i ih =>
    have hfirst := segOffset_pulse w (show 2 * i + 1 ≤ 65 by omega)
    have hsecond := segOffset_pulse w (show 2 * i + 2 ≤ 65 by omega)
    rw [segMul_firstLow w (by omega), ih (by omega)] at hfirst
    rw [segMul_secondLow w (by omega), hfirst] at hsecond
    rw [show 2 * (i + 1) + 1 = 2 * i + 2 + 1 by omega, hsecond]
    cases w.getLsbD i <;> simp <;> omega

/-! ## The windows at a multiple of the unit -/

/-- R87: both bounds are inclusive. -/
theorem inwin_iff {g : Regs} {d : Stamp} {tgt : Int} :
    inwin g d tgt = true ↔ tgt - g.tolMinusUs.toNat ≤ (d.toNat : Int) ∧ (d.toNat : Int) ≤ tgt + g.tolPlusUs.toNat := by
  simp [inwin]

/-- A stretch of at most 10 units is not cut off. -/
theorem toNat_units (g : Regs) {m : Nat} (hm : m ≤ 10) :
    (BitVec.ofNat 64 (g.tUs.toNat * m)).toNat = g.tUs.toNat * m := by
  have hT := g.tUs.isLt
  have hle : g.tUs.toNat * m ≤ g.tUs.toNat * 10 := Nat.mul_le_mul_left _ hm
  rw [BitVec.toNat_ofNat, Nat.mod_eq_of_lt (by omega)]

theorem inwin_unit (g : Regs) : inwin g (BitVec.ofNat 64 g.tUs.toNat) g.tUs.toNat = true := by
  have hd := toNat_units g (show 1 ≤ 10 by decide)
  rw [Nat.mul_one] at hd
  rw [inwin_iff, hd]
  omega

theorem classify_one_unit (g : Regs) : classify g (BitVec.ofNat 64 (g.tUs.toNat * 1)) = codeMark := by
  rw [Nat.mul_one, classify, if_pos (inwin_unit g)]

/-! R88: an upper margin below 4 units keeps the windows of Mark and Space under the low phases that come after them. -/

section
variable {g : Regs} (hg : g.tolPlusUs.toNat < 4 * g.tUs.toNat)
include hg

theorem classify_five_units : classify g (BitVec.ofNat 64 (g.tUs.toNat * 5)) = codeSpace := by
  have hd := toNat_units g (show 5 ≤ 10 by decide)
  rw [classify, if_neg, if_pos]
  all_goals rw [inwin_iff, hd]; omega

theorem classify_ten_units : classify g (BitVec.ofNat 64 (g.tUs.toNat * 10)) = codeSync := by
  have hd := toNat_units g (show 10 ≤ 10 by decide)
  rw [classify, if_neg, if_neg, if_pos]
  all_goals rw [inwin_iff, hd]; omega

end

/-- R89: at E or more a low phase is past every window, and a Pause. -/
theorem classify_of_timeoutE_le {g : Regs} {d : Stamp} (h : timeoutE g ≤ (d.toNat : Int)) : classify g d = codePause := by
  rw [timeoutE, max_le_iff] at h
  obtain ⟨hpause, hsync⟩ := h
  rw [classify, if_neg, if_neg, if_neg, if_pos hpause]
  all_goals rw [inwin_iff]; omega

/-! ## One pulse -/

/-- A rising edge at `t`, and a falling one a unit later. -/
def pulse (g : Regs) (t : Stamp) : List (Bool × Stamp) := [(true, t), (false, t + BitVec.ofNat 64 g.tUs.toNat)]

/-- The classifier after it: in the low phase that the pulse began. -/
def Rx.afterPulse (r : Rx) (g : Regs) (t : Stamp) : Rx :=
  { r with prevLevel := false, tRise := t, tFall := t + BitVec.ofNat 64 g.tUs.toNat, det := .waitLowDecision }

theorem detRun_append (g : Regs) (l m : List (Bool × Stamp)) (r : Rx) :
    detRun g (l ++ m) r = ((detRun g l r).1 ++ (detRun g m (detRun g l r).2).1, (detRun g m (detRun g l r).2).2) := by
  induction l generalizing r with
  | nil => rfl
  | cons e rest ih => simp [detRun, ih]

/-- R92: a pulse of one unit is a good high phase, so only what its rise gives is seen. -/
theorem detRun_pulse {g : Regs} {t : Stamp} {r : Rx} {c : Option Code}
    (hrise : detEvent g true t r = (c, { r with prevLevel := true, tRise := t, det := .waitHighToLow })) :
    detRun g (pulse g t) r = (c.toList, r.afterPulse g t) := by
  have hhigh : inwin g (sub64 (t + BitVec.ofNat 64 g.tUs.toNat) t) g.tUs.toNat = true := by
    rw [sub64, BitVec.add_comm, BitVec.add_sub_cancel, inwin_unit]
  simp only [pulse, detRun, hrise, List.append_nil]
  simp only [detEvent, fallArm, hhigh]
  simp [Rx.afterPulse]

section
variable {g : Regs} {r : Rx} (hprev : r.prevLevel = false) (t : Stamp)
include hprev

/-- R91: the first pulse gives no condition. -/
theorem detRun_pulse_of_start (hdet : r.det = .waitBitStart) : detRun g (pulse g t) r = ([], r.afterPulse g t) :=
  detRun_pulse (c := none) (by simp [detEvent, riseArm, hdet, hprev])

/-- R91: a rise in a low phase gives the condition of that phase. -/
theorem detEvent_rise_of_low (hdet : r.det = .waitLowDecision) : detEvent g true t r =
    (some (classify g (t - r.tFall)), { r with prevLevel := true, tRise := t, det := .waitHighToLow }) := by
  simp [detEvent, riseArm, hdet, hprev, sub64]

theorem detRun_pulse_of_low (hdet : r.det = .waitLowDecision) :
    detRun g (pulse g t) r = ([classify g (t - r.tFall)], r.afterPulse g t) :=
  detRun_pulse (detEvent_rise_of_low hprev t hdet)

end

/-! ## A telegram is 66 pulses -/

/-- An enumeration of twice as many, in pairs. -/
theorem map_range_double {α : Type} (f : Nat → α) (n : Nat) :
    (List.range (2 * n)).map f = (List.range n).flatMap fun k => [f (2 * k), f (2 * k + 1)] := by
  induction n with
  | zero => rfl
  | succ n ih => rw [show 2 * (n + 1) = 2 * n + 1 + 1 by omega]; simp [List.range_succ, ih]

/-- The start of pulse `k`: the rise that segment `2 * k` begins with. -/
def riseTime (g : Regs) (w : Word) (t0 : Stamp) (k : Nat) : Stamp :=
  t0 + BitVec.ofNat 64 (g.tUs.toNat * segOffset w (2 * k))

/-- The condition of the low phase after pulse `k`. -/
def lowCode (g : Regs) (w : Word) (k : Nat) : Code :=
  classify g (BitVec.ofNat 64 (g.tUs.toNat * segMul w (2 * k + 1)))

section
variable (g : Regs) (w : Word) (t0 : Stamp)

theorem fallTime {k : Nat} (h : k ≤ 65) : riseTime g w t0 k + BitVec.ofNat 64 g.tUs.toNat =
    t0 + BitVec.ofNat 64 (g.tUs.toNat * segOffset w (2 * k + 1)) := by
  rw [riseTime, BitVec.add_assoc, ← BitVec.ofNat_add, segOffset_fall w h, Nat.mul_add, Nat.mul_one]

theorem telegramEdges_eq_pulses :
    telegramEdges w g.tUs.toNat t0 = (List.range 66).flatMap fun k => pulse g (riseTime g w t0 k) := by
  refine (map_range_double _ 66).trans (List.flatMap_congr fun k hk => ?_)
  rw [pulse, fallTime g w t0 (by have := List.mem_range.mp hk; omega), riseTime]
  simp [segLevel]

/-- The low phase before pulse `k + 1` is segment `2 * k + 1`. -/
theorem riseTime_sub_fall {k : Nat} (h : k ≤ 65) :
    riseTime g w t0 (k + 1) - (riseTime g w t0 k + BitVec.ofNat 64 g.tUs.toNat) =
      BitVec.ofNat 64 (g.tUs.toNat * segMul w (2 * k + 1)) := by
  rw [fallTime g w t0 h, riseTime, segOffset_pulse w h, ← segOffset_fall w h, Nat.mul_add, BitVec.ofNat_add]
  ring

variable {r : Rx}

/-- R90: after pulse `n` the conditions of the low phases between the pulses have been given. -/
theorem detRun_pulses (hdet : r.det = .waitBitStart) (hprev : r.prevLevel = false) {n : Nat} (hn : n ≤ 65) :
    detRun g ((List.range (n + 1)).flatMap fun k => pulse g (riseTime g w t0 k)) r =
      ((List.range n).map (lowCode g w), r.afterPulse g (riseTime g w t0 n)) := by
  induction n with
  | zero => exact detRun_pulse_of_start hprev _ hdet
  | succ n ih =>
    have hpulse : detRun g (pulse g (riseTime g w t0 (n + 1))) (r.afterPulse g (riseTime g w t0 n)) =
        ([lowCode g w n], r.afterPulse g (riseTime g w t0 (n + 1))) := by
      rw [lowCode, ← riseTime_sub_fall g w t0 (by omega)]
      exact detRun_pulse_of_low rfl _ rfl
    rw [List.range_succ, List.flatMap_append, detRun_append, ih (by omega), List.flatMap_singleton, hpulse,
      List.range_succ, List.map_append]
    rfl

end

/-- R74, R76: the low phases are those of SYNC and of the two conditions of each logical bit. -/
theorem map_lowCode {g : Regs} (hg : g.tolPlusUs.toNat < 4 * g.tUs.toNat) (w : Word) :
    (List.range 65).map (lowCode g w) = telegramBody w := by
  have hsync : lowCode g w 0 = codeSync := classify_ten_units hg
  have hbit : ∀ i ∈ List.range 32, [lowCode g w (2 * i + 1), lowCode g w (2 * i + 2)] = bitConds (w.getLsbD i) := by
    intro i hi
    have hi := List.mem_range.mp hi
    rw [lowCode, lowCode, segMul_firstLow w hi, segMul_secondLow w hi]
    cases w.getLsbD i with
    | true => exact congrArg₂ (fun c d => [c, d]) (classify_one_unit g) (classify_five_units hg)
    | false => exact congrArg₂ (fun c d => [c, d]) (classify_five_units hg) (classify_one_unit g)
  rw [List.range_succ_eq_map, List.map_cons, List.map_map, hsync, telegramBody, ← List.flatMap_congr hbit]
  exact congrArg (codeSync :: ·) (map_range_double (lowCode g w ∘ Nat.succ) 32)

/-- R76: what a clean telegram gives, and where its last falling edge leaves the classifier. -/
theorem detRun_telegramEdges {g : Regs} (hg : g.tolPlusUs.toNat < 4 * g.tUs.toNat) (w : Word) (t0 : Stamp) {r : Rx}
    (hdet : r.det = .waitBitStart) (hprev : r.prevLevel = false) :
    detRun g (telegramEdges w g.tUs.toNat t0) r = (telegramBody w, r.afterPulse g (riseTime g w t0 65)) := by
  rw [telegramEdges_eq_pulses, detRun_pulses g w t0 hdet hprev (by decide), map_lowCode hg]

/-- R126: the last segment starts 268 units after the first. -/
theorem lastFall (g : Regs) (w : Word) (t0 : Stamp) :
    riseTime g w t0 65 + BitVec.ofNat 64 g.tUs.toNat = t0 + BitVec.ofNat 64 (268 * g.tUs.toNat) := by
  rw [fallTime g w t0 (by decide), segOffset_fall w (by decide), segOffset_logicalBit w (show 32 ≤ 32 by decide),
    Nat.mul_comm]

/-! ## The Pause -/

/-- R88, R93: at E or more after the fall the timeout gives PAUSE, and so would a rise. -/
theorem pause_of_timeoutE_le {g : Regs} {r : Rx} {now : Stamp} (hdet : r.det = .waitLowDecision)
    (hprev : r.prevLevel = false) (hen : g.pauseTimeoutEn = true) (hE : timeoutE g ≤ ((now - r.tFall).toNat : Int)) :
    detTimeout g now r = (some codePause, { r with det := .waitBitStart }) ∧
      (detEvent g true now r).1 = some codePause := by
  have hdue : timeoutDue g now r = true := by
    rw [timeoutDue, hdet, hen, sub64, decide_eq_true hE]
    rfl
  refine ⟨by rw [detTimeout, if_pos hdue], ?_⟩
  rw [detEvent_rise_of_low hprev now hdet, classify_of_timeoutE_le hE]

end Sys2Proof.Machine

section
open Sys2Proof Sys2Proof.Machine

/-- Settles O43: the run over the pulses, and the Pause from the state it leaves. -/
theorem cleanTelegramGivesItsConditions : Obligations.CleanTelegramGivesItsConditions := by
  intro g w t0 r hdet hprev hg q
  have hq : q = (telegramBody w, r.afterPulse g (riseTime g w t0 65)) := detRun_telegramEdges hg w t0 hdet hprev
  rw [hq]
  exact ⟨rfl, rfl, rfl, lastFall g w t0, fun now hen hE => pause_of_timeoutE_le rfl rfl hen hE⟩

end
end

section
/-! PROOF. What the decoder makes of a clean telegram (R110 to R118): SYNC starts an empty frame from every state, the two
conditions of each logical bit append it, and PAUSE after 32 of them emits P of the wire word. O44. -/

namespace Sys2Proof.Machine

theorem decRun_append (l m : List Code) (d : Dec) :
    decRun (l ++ m) d = ((decRun m (decRun l d).1).1, (decRun l d).2 ++ (decRun m (decRun l d).1).2) := by
  induction l generalizing d with
  | nil => rfl
  | cons c rest ih => simp [decRun, ih]

/-! ## The frame so far -/

/-- The decoder after SYNC and the first `n` logical bits of `w`. -/
def received (w : Word) (n : Nat) : Dec :=
  { state := .waitBitStart, acc := (w.setWidth n).setWidth 32, cnt := BitVec.ofNat 6 n }

theorem received_zero (w : Word) : received w 0 = Dec.clearTo .waitBitStart := by
  rw [received, BitVec.eq_nil (w.setWidth 0)]
  rfl

theorem received_all (w : Word) : received w 32 = { state := .waitBitStart, acc := w, cnt := 32#6 } := by
  simp [received]

/-- R111: bit `n` is stored at its place. -/
theorem store_bit (w : Word) (n : Nat) :
    (if w.getLsbD n then (w.setWidth n).setWidth 32 ||| 1#32 <<< n else (w.setWidth n).setWidth 32 &&& ~~~(1#32 <<< n)) =
      (w.setWidth (n + 1)).setWidth 32 := by
  apply BitVec.eq_of_getLsbD_eq
  intro i hi
  have hplace : (1#32 <<< n).getLsbD i = decide (i = n) := by
    rw [BitVec.getLsbD_shiftLeft, BitVec.getLsbD_one]
    grind
  split
  case isTrue hw =>
    rw [BitVec.getLsbD_or, hplace]
    simp only [BitVec.getLsbD_setWidth]
    grind
  case isFalse hw =>
    rw [BitVec.getLsbD_and, BitVec.getLsbD_not, hplace]
    simp only [BitVec.getLsbD_setWidth]
    grind

/-- R111: the next logical bit is appended. -/
theorem append_received (w : Word) {n : Nat} (hn : n < 32) : (received w n).append (w.getLsbD n) = received w (n + 1) := by
  have hcnt : (BitVec.ofNat 6 n).toNat = n := by rw [BitVec.toNat_ofNat, Nat.mod_eq_of_lt (by omega)]
  have hmax : BitVec.ofNat 6 n ≠ 63#6 := fun h =>
    absurd (hcnt.symm.trans (congrArg BitVec.toNat h)) (show n ≠ 63 by omega)
  simp only [Dec.append, received, hcnt, if_pos hn, hmax, if_false, store_bit w n, BitVec.ofNat_add]

/-! ## The conditions of a telegram -/

/-- R74, R116, R117: the two conditions of a logical bit append it, and put out nothing. -/
theorem decRun_bitConds (b : Bool) {d : Dec} (h : d.state = .waitBitStart) :
    decRun (bitConds b) d = (d.append b, [.nothing, .nothing]) := by
  obtain ⟨state, acc, cnt⟩ := d
  cases h
  cases b <;> rfl

theorem decRun_bits (w : Word) {n : Nat} (hn : n ≤ 32) :
    decRun ((List.range n).flatMap fun i => bitConds (w.getLsbD i)) (Dec.clearTo .waitBitStart) =
      (received w n, List.replicate (2 * n) .nothing) := by
  induction n with
  | zero => rw [received_zero]; rfl
  | succ n ih =>
    rw [List.range_succ, List.flatMap_append, List.flatMap_singleton, decRun_append, ih (by omega),
      decRun_bitConds _ rfl, append_received w (by omega)]
    exact congrArg (received w (n + 1), ·) (List.replicate_append_replicate (n := 2 * n) (m := 2))

/-- R115, R118: from any state a clean telegram leaves the decoder waiting for the next, and puts out the frame once. -/
theorem decRun_telegramConds (w : Word) (d : Dec) :
    decRun (telegramConds w) d = (Dec.clearTo .waitSync,
      (decSync d).2 :: (List.replicate 64 .nothing ++ [.frame (permP w)])) := by
  have hsync : decEvent codeSync d = (Dec.clearTo .waitBitStart, (decSync d).2) := rfl
  have hpause : decRun [codePause] (received w 32) = (Dec.clearTo .waitSync, [.frame (permP w)]) := by
    rw [received_all]; rfl
  rw [telegramConds, telegramBody, List.cons_append, decRun, hsync, decRun_append, decRun_bits w (by decide), hpause]

/-! ## The frames that are put out -/

/-- The frame of an output that is one. -/
def DecOut.frame? (o : DecOut) : Option Word :=
  match o with
  | .frame f => some f
  | .nothing => none
  | .discard => none
  | .violation => none

theorem frame?_decSync (d : Dec) : (decSync d).2.frame? = none := by
  unfold decSync
  split <;> rfl

theorem frames_telegramConds (w : Word) (d : Dec) : (decRun (telegramConds w) d).2.filterMap DecOut.frame? = [permP w] := by
  rw [decRun_telegramConds, List.filterMap_cons_none (frame?_decSync d), List.filterMap_append,
    List.filterMap_replicate_of_none rfl]
  rfl

end Sys2Proof.Machine

section
open Sys2Proof Sys2Proof.Machine

/-- Settles O44: the telegram's conditions by O43's run, then the decoder's run on them. -/
theorem roundTripGivesTheFrame : Obligations.RoundTripGivesTheFrame := by
  intro g f t0 r d hdet hprev hg q
  have hq : q.1 ++ [codePause] = telegramConds (permP f) :=
    congrArg (·.1 ++ [codePause]) (detRun_telegramEdges hg (permP f) t0 hdet hprev)
  have hframes := frames_telegramConds (permP f) d
  rw [permP_permP] at hframes
  rw [hq]
  exact ⟨congrArg Prod.fst (decRun_telegramConds (permP f) d), hframes⟩

end
end

section
/-! PROOF. The timing primitives (R86 to R89): what a low phase is classified as, and from which elapsed time on it is a Pause.
O23, O24. -/

namespace Sys2Proof.Machine

/-- R88: the first window in order that holds the low phase, and what the phase then is. -/
theorem classify_cases (g : Regs) (d : Stamp) :
    (inwin g d g.tUs.toNat = true ∧ classify g d = codeMark) ∨
    (inwin g d g.tUs.toNat = false ∧ inwin g d (5 * g.tUs.toNat) = true ∧ classify g d = codeSpace) ∨
    (inwin g d g.tUs.toNat = false ∧ inwin g d (5 * g.tUs.toNat) = false ∧ inwin g d (10 * g.tUs.toNat) = true ∧
      classify g d = codeSync) ∨
    (inwin g d g.tUs.toNat = false ∧ inwin g d (5 * g.tUs.toNat) = false ∧ inwin g d (10 * g.tUs.toNat) = false ∧
      pauseBound g ≤ (d.toNat : Int) ∧ classify g d = codePause) ∨
    (inwin g d g.tUs.toNat = false ∧ inwin g d (5 * g.tUs.toNat) = false ∧ inwin g d (10 * g.tUs.toNat) = false ∧
      ¬pauseBound g ≤ (d.toNat : Int) ∧ classify g d = codeBadLowDuration) := by
  unfold classify
  cases inwin g d g.tUs.toNat with
  | true => simp
  | false =>
    cases inwin g d (5 * g.tUs.toNat) with
    | true => simp
    | false =>
      cases inwin g d (10 * g.tUs.toNat) with
      | true => simp
      | false => by_cases hpause : pauseBound g ≤ d.toNat <;> simp [hpause]

/-- R88: a Pause lies in no window and reaches the bound. -/
theorem past_windows_of_pause {g : Regs} {d : Stamp} (h : classify g d = codePause) :
    inwin g d (10 * g.tUs.toNat) = false ∧ pauseBound g ≤ (d.toNat : Int) := by
  obtain ⟨-, hc⟩ | ⟨-, -, hc⟩ | ⟨-, -, -, hc⟩ | ⟨-, -, hsync, hpause, -⟩ | ⟨-, -, -, -, hc⟩ := classify_cases g d
  case inr.inr.inr.inl => exact ⟨hsync, hpause⟩
  all_goals exact absurd (hc.symm.trans h) (by decide)

/-- R91: the classification of a low phase is never one of the three edge errors. -/
theorem classify_ne_edgeError (g : Regs) (d : Stamp) : classify g d ≠ codeBadEdgeAfterStart ∧
    classify g d ≠ codeBadEdgeAfterHigh ∧ classify g d ≠ codeBadEdgeAfterLow := by
  obtain ⟨-, hc⟩ | ⟨-, -, hc⟩ | ⟨-, -, -, hc⟩ | ⟨-, -, -, -, hc⟩ | ⟨-, -, -, -, hc⟩ := classify_cases g d <;>
    rw [hc] <;> decide

/-- R87: a window at the reset configuration. -/
theorem inwin_reset_iff {d : Stamp} {tgt : Int} :
    inwin Regs.reset d tgt = true ↔ tgt - 150 ≤ (d.toNat : Int) ∧ (d.toNat : Int) ≤ tgt + 250 := inwin_iff

/-- R88: the end of the Sync window lies in the window and so is no Pause; a stamp is wide enough for it. -/
theorem classify_syncEnd_ne_pause (g : Regs) :
    classify g (BitVec.ofNat 64 (10 * g.tUs.toNat + g.tolPlusUs.toNat)) ≠ codePause := by
  intro h
  have hT := g.tUs.isLt
  have hP := g.tolPlusUs.isLt
  have hd : (BitVec.ofNat 64 (10 * g.tUs.toNat + g.tolPlusUs.toNat)).toNat = 10 * g.tUs.toNat + g.tolPlusUs.toNat := by
    rw [BitVec.toNat_ofNat, Nat.mod_eq_of_lt (by omega)]
  have hin : inwin g (BitVec.ofNat 64 (10 * g.tUs.toNat + g.tolPlusUs.toNat)) (10 * g.tUs.toNat) = true := by
    rw [inwin_iff, hd]
    omega
  obtain ⟨hout, -⟩ := past_windows_of_pause h
  exact absurd (hin.symm.trans hout) (by decide)

/-- R89: a stamp from which on every low phase is a Pause has reached E. -/
theorem timeoutE_le_of_pause_from {g : Regs} {d : Stamp}
    (h : ∀ d' : Stamp, d.toNat ≤ d'.toNat → classify g d' = codePause) : timeoutE g ≤ (d.toNat : Int) := by
  obtain ⟨-, hpause⟩ := past_windows_of_pause (h d le_rfl)
  have hsync : ¬d.toNat ≤ (BitVec.ofNat 64 (10 * g.tUs.toNat + g.tolPlusUs.toNat)).toNat := fun hle =>
    classify_syncEnd_ne_pause g (h _ hle)
  have hT := g.tUs.isLt
  have hP := g.tolPlusUs.isLt
  rw [BitVec.toNat_ofNat, Nat.mod_eq_of_lt (by omega)] at hsync
  exact max_le hpause (by omega)

theorem one_le_timeoutE (g : Regs) : 1 ≤ timeoutE g := le_max_of_le_right (by omega)

end Sys2Proof.Machine

section
open Sys2Proof Sys2Proof.Machine

/-- Settles O23: the windows in their order, and their bounds at the reset configuration. -/
theorem lowPhasesAreClassifiedInOrder : Obligations.LowPhasesAreClassifiedInOrder := by
  refine ⟨?windows, fun d => ?reset⟩
  case windows =>
    intro g d within T
    have hin : ∀ tgt, within tgt ↔ inwin g d tgt = true := fun _ => inwin_iff.symm
    have hpause : 40 * (g.tUs.toNat : Int) - g.pauseGuardUs.toNat = pauseBound g := rfl
    simp only [hin, T, hpause, ← not_le]
    obtain ⟨h, hc⟩ | ⟨h, h5, hc⟩ | ⟨h, h5, h10, hc⟩ | ⟨h, h5, h10, hp, hc⟩ | ⟨h, h5, h10, hp, hc⟩ := classify_cases g d
    all_goals simp [*, codeMark, codeSpace, codeSync, codePause, codeBadLowDuration]
  case reset =>
    refine if_congr (inwin_reset_iff.trans ?_) rfl (if_congr (inwin_reset_iff.trans ?_) rfl
      (if_congr (inwin_reset_iff.trans ?_) rfl (if_congr ?_ rfl rfl)))
    · change (250 : Int) - 150 ≤ _ ∧ _ ≤ (250 : Int) + 250 ↔ _
      omega
    · change (5 * 250 : Int) - 150 ≤ _ ∧ _ ≤ (5 * 250 : Int) + 250 ↔ _
      omega
    · change (10 * 250 : Int) - 150 ≤ _ ∧ _ ≤ (10 * 250 : Int) + 250 ↔ _
      omega
    · change (40 * 250 : Int) - 150 ≤ _ ↔ _
      omega

/-- Settles O24: below E either the Pause bound or the end of the Sync window is still to come. -/
theorem timeoutThresholdIsLeast : Obligations.TimeoutThresholdIsLeast := by
  refine ⟨fun g d => ⟨timeoutE_le_of_pause_from, fun hE d' hle => ?_⟩, fun g => ⟨rfl, one_le_timeoutE g⟩, by decide⟩
  exact classify_of_timeoutE_le (hE.trans (Int.ofNat_le.mpr hle))

end
end

section
/-! PROOF. The classifier's transfer function (R90 to R93, R95), case by case, and the three operations that run it.
O19 to O22, O25, O27. -/

namespace Sys2Proof.Machine

/-! ## The transfer function, one equation for each case -/

section
variable (g : Regs) (t : Stamp) {r : Rx}

/-- R90: the recorded level again. -/
theorem detEvent_of_recorded {lvl : Bool} (h : r.prevLevel = lvl) : detEvent g lvl t r = (none, r) := by
  simp [detEvent, h]

section
variable (hprev : r.prevLevel = false)
include hprev

theorem detEvent_rise_of_start (hdet : r.det = .waitBitStart) :
    detEvent g true t r = (none, { r with prevLevel := true, tRise := t, det := .waitHighToLow }) := by
  simp [detEvent, riseArm, hdet, hprev]

theorem detEvent_rise_of_high (hdet : r.det = .waitHighToLow) :
    detEvent g true t r = (some codeBadEdgeAfterHigh, { r with prevLevel := true }) := by
  simp [detEvent, riseArm, hdet, hprev]

end

section
variable (hprev : r.prevLevel = true)
include hprev

theorem detEvent_fall_of_start (hdet : r.det = .waitBitStart) :
    detEvent g false t r = (some codeBadEdgeAfterStart, { r with prevLevel := false }) := by
  simp [detEvent, fallArm, hdet, hprev]

theorem detEvent_fall_of_good_high (hdet : r.det = .waitHighToLow) (hin : inwin g (t - r.tRise) g.tUs.toNat = true) :
    detEvent g false t r = (none, { r with prevLevel := false, tFall := t, det := .waitLowDecision }) := by
  simp [detEvent, fallArm, hdet, hprev, sub64, hin]

theorem detEvent_fall_of_bad_high (hdet : r.det = .waitHighToLow) (hout : inwin g (t - r.tRise) g.tUs.toNat = false) :
    detEvent g false t r = (some codeBadHighDuration, { r with prevLevel := false, det := .waitBitStart }) := by
  simp [detEvent, fallArm, hdet, hprev, sub64, hout]

theorem detEvent_fall_of_low (hdet : r.det = .waitLowDecision) :
    detEvent g false t r = (some codeBadEdgeAfterLow, { r with prevLevel := false }) := by
  simp [detEvent, fallArm, hdet, hprev]

end

theorem timeoutDue_iff {now : Stamp} : timeoutDue g now r = true ↔
    r.det = .waitLowDecision ∧ g.pauseTimeoutEn = true ∧ timeoutE g ≤ ((now - r.tFall).toNat : Int) := by
  simp [timeoutDue, sub64, and_assoc]

theorem detTimeout_of_due {now : Stamp} (h : timeoutDue g now r = true) :
    detTimeout g now r = (some codePause, { r with det := .waitBitStart }) := if_pos h

theorem detTimeout_of_not_due {now : Stamp} (h : ¬timeoutDue g now r = true) : detTimeout g now r = (none, r) := if_neg h

end

/-! ## The operations hand what it gives to the write side (R94) -/

theorem exec_edgeRise {s : State} {t : Stamp} {c : Option Code} {r : Rx} (h : detEvent s.regs true t s.rx = (c, r)) :
    exec (.edgeRise t) s = .next ((s.setRx r).writeSide c) :=
  congrArg (fun o => Host.Outcome.next (s.applyDet o)) h

theorem exec_edgeFall {s : State} {t : Stamp} {c : Option Code} {r : Rx} (h : detEvent s.regs false t s.rx = (c, r)) :
    exec (.edgeFall t) s = .next ((s.setRx r).writeSide c) :=
  congrArg (fun o => Host.Outcome.next (s.applyDet o)) h

theorem exec_pauseTimeout {s : State} {c : Option Code} {r : Rx} (h : detTimeout s.regs s.io.rxNow s.rx = (c, r)) :
    exec .pauseTimeout s = .next ((s.setRx r).writeSide c) :=
  congrArg (fun o => Host.Outcome.next (s.applyDet o)) h

/-- R85: asked for when it is not due, PAUSE_TIMEOUT gives no condition (assumption 8). -/
theorem exec_pauseTimeout_of_not_due {s : State} (h : ¬timeoutDue s.regs s.io.rxNow s.rx = true) :
    exec .pauseTimeout s = .next (s.writeSide none) := exec_pauseTimeout (detTimeout_of_not_due _ h)

/-! ## The word of an edge event (R66) -/

theorem decode_rise (t : Stamp) : decode (.edge (1#1 ++ t)) = .ok (.edgeRise t) :=
  congrArg Except.ok (decodeEdge_append true t)

theorem decode_fall (t : Stamp) : decode (.edge (0#1 ++ t)) = .ok (.edgeFall t) :=
  congrArg Except.ok (decodeEdge_append false t)

end Sys2Proof.Machine

section
open Sys2Proof Sys2Proof.Machine

/-- Settles O25: the timeout goes to WaitBitStart, where the rise gives no condition and the state it also gives in a low
phase. -/
theorem timeoutThenEdgeEqualsEdge : Obligations.TimeoutThenEdgeEqualsEdge := by
  intro g now t r hprev hdue hE
  obtain ⟨hdet, -, -⟩ := (timeoutDue_iff g).mp hdue
  rw [detTimeout_of_due g hdue, detEvent_rise_of_low hprev t hdet]
  exact ⟨rfl, detEvent_rise_of_start g t hprev rfl, congrArg some (classify_of_timeoutE_le hE)⟩

/-- Settles O27: a level that fits leaves a rise only WaitBitStart and WaitLowDecision, a fall only WaitBitStart and
WaitHighToLow. -/
theorem acceptedEdgesAlternate : Obligations.AcceptedEdgesAlternate := by
  intro g lvl t r hsafe hne
  cases lvl with
  | true =>
    have hprev : r.prevLevel = false := by simpa using hne.symm
    cases hdet : r.det with
    | waitBitStart =>
      rw [detEvent_rise_of_start g t hprev hdet]
      simp [Rx.levelSafe]
    | waitHighToLow => simp [Rx.levelSafe, hdet, hprev] at hsafe
    | waitLowDecision =>
      obtain ⟨hstart, hhigh, hlow⟩ := classify_ne_edgeError g (t - r.tFall)
      rw [detEvent_rise_of_low hprev t hdet]
      simp [Rx.levelSafe, hstart, hhigh, hlow]
  | false =>
    have hprev : r.prevLevel = true := by simpa using hne.symm
    cases hdet : r.det with
    | waitBitStart =>
      rw [detEvent_fall_of_start g t hprev hdet]
      simp [Rx.levelSafe, hdet, codeBadEdgeAfterStart, codeBadEdgeAfterHigh, codeBadEdgeAfterLow]
    | waitHighToLow =>
      cases hin : inwin g (t - r.tRise) g.tUs.toNat with
      | true =>
        rw [detEvent_fall_of_good_high g t hprev hdet hin]
        simp [Rx.levelSafe]
      | false =>
        rw [detEvent_fall_of_bad_high g t hprev hdet hin]
        simp [Rx.levelSafe, codeBadHighDuration, codeBadEdgeAfterStart, codeBadEdgeAfterHigh, codeBadEdgeAfterLow]
    | waitLowDecision => simp [Rx.levelSafe, hdet, hprev] at hsafe

/-- Settles O19: the operation's word, then the rise in each state. -/
theorem edgeRiseResult : Obligations.EdgeRiseResult := fun s t hprev =>
  ⟨decode_rise t, fun hdet => exec_edgeRise (detEvent_rise_of_start s.regs t hprev hdet),
    fun hdet => exec_edgeRise (detEvent_rise_of_high s.regs t hprev hdet),
    fun hdet => exec_edgeRise (detEvent_rise_of_low hprev t hdet)⟩

/-- Settles O20: the operation's word, then the fall in each state; a high phase is good exactly inside its window. -/
theorem edgeFallResult : Obligations.EdgeFallResult := by
  intro s t hprev
  refine ⟨decode_fall t, fun hdet => exec_edgeFall (detEvent_fall_of_start s.regs t hprev hdet), fun hdet => ?high,
    fun hdet => exec_edgeFall (detEvent_fall_of_low s.regs t hprev hdet)⟩
  case high =>
    split
    case isTrue hin => exact exec_edgeFall (detEvent_fall_of_good_high s.regs t hprev hdet (inwin_iff.mpr hin))
    case isFalse hout =>
      exact exec_edgeFall (detEvent_fall_of_bad_high s.regs t hprev hdet (Bool.eq_false_iff.mpr (mt inwin_iff.mp hout)))

/-- Settles O21: a duplicate level hands no condition to the write side, for either operation. -/
theorem duplicateLevelIsIgnored : Obligations.DuplicateLevelIsIgnored := fun s t =>
  ⟨fun h => exec_edgeRise (detEvent_of_recorded s.regs t h), fun h => exec_edgeFall (detEvent_of_recorded s.regs t h)⟩

/-- Settles O22: the two outcomes of the timeout. -/
theorem pauseTimeoutResult : Obligations.PauseTimeoutResult := by
  intro s
  split
  case isTrue hdue => exact exec_pauseTimeout (detTimeout_of_due _ ((timeoutDue_iff _).mpr hdue))
  case isFalse hnot => exact exec_pauseTimeout_of_not_due (mt (timeoutDue_iff _).mp hnot)

end
end

section
/-! PROOF. The receive side's step (R83 to R85): one edge event, or the timeout, or nothing. O28. -/

namespace Sys2Proof.Machine

theorem rxCycle_of_disabled {s : State} (hen : s.rxEnView = false) : rxCycle s = .next s.rxDisabled := by
  simp [rxCycle, hen]

/-- R66, R84: the edge word of a step is the level's operation at the step's timestamp. -/
theorem decode_edgeWord {s : State} {level : Bool} (h : s.sLvl = level) :
    decode s.edgeWord = .ok (if level then .edgeRise s.io.rxNow else .edgeFall s.io.rxNow) := by
  rw [State.edgeWord, h, decode, decodeEdge_append]

/-- R85: without a change of the level the step asks for the timeout, which answers for itself whether it is due. -/
theorem rxCycle_of_same_level {s : State} (hen : s.rxEnView = true) (hlvl : s.sLvl = s.rx.prevLevel) :
    rxCycle s = exec .pauseTimeout s := by
  by_cases hdue : timeoutDue s.regs s.io.rxNow s.rx = true
  · simp [rxCycle, hen, hlvl, hdue]
  · rw [exec_pauseTimeout_of_not_due hdue]
    simp [rxCycle, hen, hlvl, hdue]

end Sys2Proof.Machine

section
open Sys2Proof Sys2Proof.Machine

/-- Settles O28: a lone edge of `clk_rx` is the receive side's cycle on the latched state; the cycle's branches are R83's
and R85's. -/
theorem receiveStepTakesOneEvent : Obligations.ReceiveStepTakesOneEvent := by
  refine ⟨fun s e rest hm hr => step_rxTick hm hr, fun s => ⟨rxCycle_of_disabled, fun hen hlvl hprev => ?rise,
    fun hen hlvl hprev => ?fall, rxCycle_of_same_level⟩⟩
  case rise =>
    have hne : s.sLvl ≠ s.rx.prevLevel := ne_of_eq_of_ne hlvl (by simp [hprev])
    exact rxCycle_of_edge hen hne (decode_edgeWord hlvl)
  case fall =>
    have hne : s.sLvl ≠ s.rx.prevLevel := ne_of_eq_of_ne hlvl (by simp [hprev])
    exact rxCycle_of_edge hen hne (decode_edgeWord hlvl)

end
end

section
/-! PROOF. What the step of each clock domain makes of the state, case by case (R83 to R85, R108, R114, R121, R128, R134). -/

namespace Sys2Proof.Machine

/-- R108: the consumer's step takes the head of a frame channel that it sees non-empty, or does nothing. -/
theorem consCycle_outcome {s t : State} (h : consCycle s = .next t) :
    t = s ∨ (s.fc.emptyR = false ∧ ∃ f rest, s.fc.buf = f :: rest ∧
      t = (s.setFc { s.fc with buf := rest, rcnt := s.fc.rcnt + 1 }).setIo { s.io with framePopped := some f }) := by
  unfold consCycle at h
  cases hready : s.io.frameReady with
  | false =>
    rw [hready] at h
    cases h
    exact .inl rfl
  | true =>
    rw [hready] at h
    have hread : s.readFrame = .next t := h
    obtain ⟨-, hr⟩ | ⟨-, -, hr⟩ | ⟨hseen, f, rest, hbuf, hr⟩ := readFrame_cases s <;> rw [hr] at hread <;> cases hread
    · exact .inl rfl
    · exact .inr ⟨hseen, f, rest, hbuf, rfl⟩

/-- R83 to R85: the receive side's step is that of a disabled receive side, or hands what one of the classifier's two
event-level functions gives to the write side. -/
theorem rxCycle_outcome {s t : State} (h : rxCycle s = .next t) :
    t = s.rxDisabled ∨ ∃ o, t = s.applyDet o ∧
      (o = detEvent s.regs s.sLvl s.io.rxNow s.rx ∨ o = detTimeout s.regs s.io.rxNow s.rx) := by
  cases hen : s.rxEnView with
  | false =>
    rw [rxCycle_of_disabled hen] at h
    cases h
    exact .inl rfl
  | true =>
    by_cases hlvl : s.sLvl = s.rx.prevLevel
    · rw [rxCycle_of_same_level hen hlvl] at h
      cases h
      exact .inr ⟨_, rfl, .inr rfl⟩
    · rw [rxCycle_of_edge hen hlvl (decode_edgeWord rfl)] at h
      refine .inr ⟨_, ?_, .inl rfl⟩
      cases hs : s.sLvl <;> rw [hs] at h <;> cases h <;> rfl

/-- What a host access may change: registers and ports, and the transmitter if it starts a telegram (R127, R133, R134). -/
def HostEffect (s t : State) : Prop := ∃ (r : Regs) (x : Tx) (p : Ports), t = ((s.setRegs r).setTx x).setIo p ∧
  (x = s.tx ∨ ∃ (t0 : Stamp) (w : Word), x = { busy := true, out := true, seg := 0, t0 := t0, word := w })

theorem hostEffect_setRegs (s : State) (r : Regs) : HostEffect s (s.busWrite.setRegs r) :=
  ⟨r, s.tx, { s.io with busRdata := 0 }, rfl, .inl rfl⟩

theorem hostEffect_writeCtrl (s : State) (v : Word) : HostEffect s (s.writeCtrl v) := by
  simp only [State.writeCtrl, State.startTelegram]
  repeat' split
  · exact hostEffect_setRegs s _
  · exact ⟨{ s.regs with rxEn := v.getLsbD 0 }, _, { s.io with busRdata := 0 }, rfl, .inr ⟨_, _, rfl⟩⟩
  · exact hostEffect_setRegs s _

/-- R135: a guarded write that is ignored still shows `bus_rdata` = 0. -/
theorem hostEffect_guardedWrite (s : State) (r : Regs) : HostEffect s (s.guardedWrite r) := by
  unfold State.guardedWrite
  split
  · exact hostEffect_setRegs s r
  · exact hostEffect_setRegs s s.regs

/-- R134: a bus write gives a next state, and no more than a host access may do. -/
theorem exec_decodeWrite_effect (off : BitVec 6) (v : Word) (s : State) :
    ∃ t, exec (decodeWrite off v) s = .next t ∧ HostEffect s t := by
  unfold decodeWrite
  generalize (off >>> 2).toNat = slot
  match slot with
  | 1 => exact ⟨_, exec_ctrlWrite _ v s, hostEffect_writeCtrl s v⟩
  | 5 | 6 | 7 => exact ⟨_, rfl, hostEffect_guardedWrite s _⟩
  | 3 | 4 | 8 | 10 => exact ⟨_, rfl, hostEffect_setRegs s _⟩
  | 0 | 2 | 9 | 11 | _ + 12 => exact ⟨_, rfl, hostEffect_setRegs s s.regs⟩

/-- R133, R134: so does every host access of a step. -/
theorem hostCycle_effect {s t : State} (h : hostCycle s = .next t) : HostEffect s t := by
  simp only [hostCycle, runWord, State.busWord, decode, decodeBus] at h
  split at h
  · split at h
    · obtain ⟨u, hu, heffect⟩ := exec_decodeWrite_effect ((BitVec.ofBool s.io.busWe ++ s.io.busOff).setWidth 6) s.io.busWdata s
      cases hu.symm.trans h
      exact heffect
    · rw [exec_decodeRead] at h
      cases h
      exact ⟨s.regs, s.tx, _, rfl, .inl rfl⟩
  · cases h
    exact ⟨s.regs, s.tx, s.io, rfl, .inl rfl⟩

theorem wouldEmit_of_ne_pause {c : Code} (h : c ≠ codePause) (s : State) : s.wouldEmit c = false := by
  simp [State.wouldEmit, h]

/-- R114, R120: consuming a condition word is the event-level function and its report, unless a PAUSE waits for room. -/
theorem runWord_cond (c : Code) (s : State) : runWord (.cond c) s = .next
    (if s.wouldEmit c && s.fcFull then s else (s.reportDrained c).applyDec (decEvent c s.dec)) := by
  by_cases hc : c = codePause
  · subst hc
    change execCondPause s = _
    unfold execCondPause
    split <;> rfl
  · rw [wouldEmit_of_ne_pause hc]
    obtain ⟨⟨n, hn⟩⟩ := c
    match n with
    | 3 => exact absurd rfl hc
    | 0 | 1 | 2 | 4 | 5 | 6 | 7 | 8 | 9 | 10 | 11 | 12 | 13 | 14 | 15 => rfl
    | n + 16 => exact absurd hn (by omega)

/-- R121: the decoder's step is idle, waits for a Sync, or takes the head of a condition channel that it sees non-empty: it
drops the word, or consumes it. -/
theorem decoderCycle_outcome {s0 s t : State} (h : decoderCycle s0.decAction s = .next t) :
    t = s ∨ t = s.decHold ∨ (s0.cc.emptyR = false ∧ ∃ (c v : Code) (u : State), s.popCond = some (v, u) ∧
      (t = (u.reportDrained c).decHold ∨ runWord (.cond c) u = .next t)) := by
  obtain ⟨-, -, ha⟩ | ⟨-, -, ha⟩ | ⟨-, -, ha⟩ | ⟨hseen, c, -, -, hhead⟩ := decAction_cases s0
  case inl =>
    rw [ha] at h
    cases h
    exact .inr (.inl rfl)
  case inr.inl =>
    rw [ha] at h
    cases h
    exact .inl rfl
  case inr.inr.inl =>
    rw [ha] at h
    cases h
  case inr.inr.inr =>
    obtain ⟨-, ha⟩ | ⟨-, -, -, ha⟩ | ⟨-, -, ha⟩ := hhead <;> rw [ha] at h <;> simp only [decoderCycle] at h
    case inl =>
      split at h
      next v u hpop =>
        cases h
        exact .inr (.inr ⟨hseen, c, v, u, hpop, .inl rfl⟩)
      next => cases h
    case inr.inl =>
      cases h
      exact .inl rfl
    case inr.inr =>
      split at h
      next v u hpop => exact .inr (.inr ⟨hseen, c, v, u, hpop, .inr h⟩)
      next => cases h

/-- R128: the transmitter's step does nothing, ends the telegram, or goes on to the next of its segments. -/
theorem txCycle_outcome {busy : Bool} {s t : State} (h : txCycle busy s = .next t) : t = s ∨ ∃ t0,
    t = (s.setTx { s.tx with busy := false, out := false, seg := 0, t0 := t0 }).raiseTxDone ∨
    (s.tx.busy = true ∧ s.tx.seg.toNat < 131 ∧
      t = s.setTx { s.tx with seg := s.tx.seg + 1, t0 := t0, out := segLevel (s.tx.seg.toNat + 1) }) := by
  simp only [txCycle, exec, execTxSegment] at h
  split at h
  · split at h
    next hdue =>
      split at h <;> cases h
      next => exact .inr ⟨_, .inl rfl⟩
      next hseg => exact .inr ⟨_, .inr ⟨(Bool.and_eq_true _ _ ▸ hdue).1, not_le.mp hseg, rfl⟩⟩
    next =>
      cases h
      exact .inl rfl
  · cases h
    exact .inl rfl

end Sys2Proof.Machine
end

section
/-! PROOF. The parts of the invariant that the operations of a step touch: the classifier's level (R95), the codes that are
pushed (R68), the decoder's partial frame (R110, R116), the transmitter's segment and level (R38, R39, R129). -/

namespace Sys2Proof.Machine

/-! ## The receive side -/

/-- R93: the timeout gives PAUSE if it gives a condition, and leaves a level that fits. -/
theorem detTimeout_safe {g : Regs} {now : Stamp} {r : Rx} (h : r.levelSafe = true) :
    (detTimeout g now r).2.levelSafe = true ∧ ∀ c, (detTimeout g now r).1 = some c → producible c = true := by
  by_cases hdue : timeoutDue g now r = true
  · rw [detTimeout_of_due g hdue]
    exact ⟨rfl, fun c hc => Option.some.inj hc ▸ by decide⟩
  · rw [detTimeout_of_not_due g hdue]
    exact ⟨h, nofun⟩

/-- R67, R88: a low phase is classified as one of the codes 0 to 9. -/
theorem classify_le (g : Regs) (d : Stamp) : (classify g d).toNat ≤ 9 := by
  obtain ⟨-, hc⟩ | ⟨-, -, hc⟩ | ⟨-, -, -, hc⟩ | ⟨-, -, -, -, hc⟩ | ⟨-, -, -, -, hc⟩ := classify_cases g d <;>
    rw [hc] <;> decide

/-- R67, R90: an edge event gives one of the codes 0 to 9. -/
theorem detEvent_le {g : Regs} {lvl : Bool} {t : Stamp} {r : Rx} {c : Code} (h : (detEvent g lvl t r).1 = some c) :
    c.toNat ≤ 9 := by
  unfold detEvent riseArm fallArm at h
  repeat' split at h
  all_goals cases h
  case h_3 => exact classify_le _ _
  all_goals decide

/-- R95: an edge event on a level that fits gives a code that the hardware can push, and a level that fits. -/
theorem detEvent_safe {g : Regs} {lvl : Bool} {t : Stamp} {r : Rx} (h : r.levelSafe = true) :
    (detEvent g lvl t r).2.levelSafe = true ∧ ∀ c, (detEvent g lvl t r).1 = some c → producible c = true := by
  by_cases hlvl : lvl = r.prevLevel
  · rw [detEvent_of_recorded g t hlvl.symm]
    exact ⟨h, nofun⟩
  · obtain ⟨-, hlevel, hhigh, hlow, -⟩ := acceptedEdgesAlternate g lvl t r h hlvl
    refine ⟨hlevel, fun c hc => ?_⟩
    rw [hc] at hhigh hlow
    simpa [producible] using ⟨⟨detEvent_le hc, mt (congrArg some) hhigh⟩, mt (congrArg some) hlow⟩

/-- The classifier's two event-level functions count no drop. -/
theorem detEvent_dropCnt (g : Regs) (lvl : Bool) (t : Stamp) (r : Rx) : (detEvent g lvl t r).2.dropCnt = r.dropCnt := by
  unfold detEvent riseArm fallArm
  repeat' split
  all_goals rfl

theorem detTimeout_dropCnt (g : Regs) (now : Stamp) (r : Rx) : (detTimeout g now r).2.dropCnt = r.dropCnt := by
  unfold detTimeout
  split <;> rfl

/-- R111, R29: a saturating count does not fall. -/
theorem le_satinc16 (x : Half) : x.toNat ≤ (satinc16 x).toNat := by
  unfold satinc16
  split
  · exact le_rfl
  · bv_omega

/-- R104: the write side leaves the classifier's state alone and its drop count does not fall. -/
theorem writeSide_rx (s : State) (c : Option Code) : (s.writeSide c).rx.levelSafe = s.rx.levelSafe ∧
    s.rx.dropCnt.toNat ≤ (s.writeSide c).rx.dropCnt.toNat := by
  obtain ⟨-, hw⟩ | ⟨-, -, -, -, hw⟩ | ⟨-, -, -, -, hw⟩ | ⟨-, -, -, v, -, hw⟩ | ⟨-, -, -, hw⟩ | ⟨-, -, -, hw⟩ :=
    writeSide_cases s c <;> rw [hw]
  case inr.inr.inl | inr.inr.inr.inr.inl => exact ⟨rfl, le_satinc16 _⟩
  all_goals exact ⟨rfl, le_rfl⟩

/-- R104: the write side pushes OVERFLOW, the condition it is handed, or nothing. -/
theorem writeSide_buf (s : State) (c : Option Code) : (s.writeSide c).cc.buf = s.cc.buf ∨
    ∃ v, (v = codeOverflow ∨ c = some v) ∧ (s.writeSide c).cc.buf = s.cc.buf ++ [v] := by
  obtain ⟨-, hw⟩ | ⟨-, -, -, -, hw⟩ | ⟨-, -, -, -, hw⟩ | ⟨-, -, -, v, hc, hw⟩ | ⟨-, -, -, hw⟩ | ⟨-, -, -, hw⟩ :=
    writeSide_cases s c <;> rw [hw]
  case inr.inl | inr.inr.inl => exact .inr ⟨codeOverflow, .inl rfl, rfl⟩
  case inr.inr.inr.inl => exact .inr ⟨v, .inr hc, rfl⟩
  all_goals exact .inl rfl

/-! ## The decoder -/

/-- R116: no bit at or above the count is a bound on the partial frame. -/
theorem shiftRight_eq_zero_iff {x : Word} {n : Nat} : x >>> n = 0 ↔ x.toNat < 2 ^ n := by
  rw [← BitVec.toNat_inj, BitVec.toNat_ushiftRight, Nat.shiftRight_eq_div_pow]
  simp [Nat.div_eq_zero_iff]

theorem Dec.safe_iff {d : Dec} : d.safe = true ↔
    (d.state = .waitSync → d.acc = 0 ∧ d.cnt = 0) ∧ d.acc.toNat < 2 ^ d.cnt.toNat := by
  rw [Dec.safe, Bool.and_eq_true, beq_iff_eq, shiftRight_eq_zero_iff]
  simp [imp_iff_not_or]

/-- R110: a cleared partial frame has no bits. -/
theorem Dec.safe_clearTo (d : DecState) : (Dec.clearTo d).safe = true := Dec.safe_iff.mpr ⟨fun _ => ⟨rfl, rfl⟩, Nat.one_pos⟩

/-- R116: between the conditions of a frame the partial frame stays. -/
theorem Dec.safe_state {d : Dec} (h : d.safe = true) {state : DecState} (hne : state ≠ .waitSync) :
    { d with state := state }.safe = true :=
  Dec.safe_iff.mpr ⟨fun heq => absurd heq hne, (Dec.safe_iff.mp h).2⟩

/-- R111: an appended bit is below the next count. -/
theorem Dec.append_lt {d : Dec} (h : d.acc.toNat < 2 ^ d.cnt.toNat) (b : Bool) :
    (d.append b).acc.toNat < 2 ^ (d.append b).cnt.toNat := by
  by_cases hcnt : d.cnt.toNat < 32
  · have hmax : d.cnt ≠ 63#6 := fun heq => absurd (heq ▸ hcnt) (by decide)
    have hnext : (d.append b).cnt.toNat = d.cnt.toNat + 1 := by
      simp only [Dec.append, if_neg hmax]
      bv_omega
    have hbit : (1#32 <<< d.cnt.toNat).toNat = 2 ^ d.cnt.toNat := by
      rw [BitVec.toNat_shiftLeft, BitVec.toNat_ofNat, Nat.shiftLeft_eq, Nat.one_mod, Nat.one_mul,
        Nat.mod_eq_of_lt (Nat.pow_lt_pow_right (by decide) hcnt)]
    rw [hnext]
    simp only [Dec.append, if_pos hcnt]
    have hpow : 2 ^ d.cnt.toNat < 2 ^ (d.cnt.toNat + 1) := Nat.pow_lt_pow_right (by decide) (by omega)
    cases b with
    | true =>
      rw [if_pos rfl, BitVec.toNat_or, hbit]
      exact Nat.or_lt_two_pow (h.trans hpow) hpow
    | false =>
      rw [if_neg (by decide), BitVec.toNat_and]
      exact (Nat.and_le_left.trans_lt h).trans hpow
  · have hle : 32 ≤ (d.append b).cnt.toNat := by
      simp only [Dec.append]
      split <;> bv_omega
    exact (d.append b).acc.isLt.trans_le (Nat.pow_le_pow_right (by decide) hle)

theorem Dec.safe_append {d : Dec} (h : d.safe = true) (b : Bool) {state : DecState} (hne : state ≠ .waitSync) :
    { d.append b with state := state }.safe = true :=
  Dec.safe_iff.mpr ⟨fun heq => absurd heq hne, Dec.append_lt (Dec.safe_iff.mp h).2 b⟩

/-- R110 to R119: every condition leaves a partial frame without stray bits. -/
theorem decEvent_safe (c : Code) {d : Dec} (h : d.safe = true) : (decEvent c d).1.safe = true := by
  unfold decEvent
  repeat' split
  · unfold decMark
    split
    exacts [h, Dec.safe_state h (by decide), Dec.safe_append h false (by decide), Dec.safe_clearTo _]
  · unfold decSpace
    split
    exacts [h, Dec.safe_state h (by decide), Dec.safe_append h true (by decide), Dec.safe_clearTo _]
  · exact Dec.safe_clearTo _
  · unfold decPause
    split
    exacts [h, Dec.safe_clearTo _, Dec.safe_clearTo _, Dec.safe_clearTo _]
  · unfold decOther
    split
    exacts [h, Dec.safe_clearTo _, Dec.safe_clearTo _, Dec.safe_clearTo _]

@[simp] theorem applyDec_dec (s : State) (r : Dec × DecOut) : (s.applyDec r).dec = r.1 := by
  obtain ⟨d, _ | _ | _ | _⟩ := r <;> rfl

/-- R118: a frame comes only from a PAUSE after 32 bits. -/
theorem wouldEmit_of_frame {c : Code} {s : State} {f : Word} (h : (decEvent c s.dec).2 = .frame f) :
    s.wouldEmit c = true := by
  unfold decEvent decMark decSpace decSync decPause decOther at h
  repeat' split at h
  all_goals cases h
  next hc hstate hcnt => simp [State.wouldEmit, *]

/-- A report that is no frame leaves the frame channel. -/
theorem applyDec_fc_of_no_frame (s : State) {r : Dec × DecOut} (h : ∀ f, r.2 ≠ .frame f) : (s.applyDec r).fc = s.fc := by
  obtain ⟨d, out⟩ := r
  cases out with
  | frame f => exact absurd rfl (h f)
  | nothing | discard | violation => rfl

/-! ## The transmitter -/

theorem Tx.safe_iff {t : Tx} : t.safe = true ↔
    t.seg.toNat ≤ 131 ∧ (t.busy = false → t.seg = 0) ∧ t.out = (t.busy && segLevel t.seg.toNat) := by
  simp only [Tx.safe, Bool.and_eq_true, Bool.or_eq_true, decide_eq_true_eq, beq_iff_eq, and_assoc]
  cases t.busy <;> simp

/-- R128: before the last segment the next one has its index and its level. -/
theorem Tx.safe_next {x : Tx} (hbusy : x.busy = true) (hseg : x.seg.toNat < 131) (t0 : Stamp) :
    { x with seg := x.seg + 1, t0 := t0, out := segLevel (x.seg.toNat + 1) }.safe = true := by
  have hnext : (x.seg + 1).toNat = x.seg.toNat + 1 := by bv_omega
  refine Tx.safe_iff.mpr ⟨?_, ?_, ?_⟩
  · simp only [hnext]
    omega
  · simp [hbusy]
  · simp only [hbusy, hnext, Bool.true_and]

end Sys2Proof.Machine
end

section
/-! PROOF. What the operations of a tick keep: the parts of the invariant above, and the flags of the two channels, since no
entry goes into a full channel and none comes out of an empty one (R98 to R100). -/

namespace Sys2Proof.Machine

/-- A domain without an edge leaves the state. -/
theorem edge_cases {edge : Bool} {o : Result} {s t : State} (h : (if edge then o else .next s) = .next t) :
    o = .next t ∨ t = s := by
  cases edge with
  | true => exact .inl h
  | false => exact .inr (Host.Outcome.next.inj h).symm

/-- The parts of the invariant that no synchroniser touches, with the parameters `p` and a drop count that has reached `n`. -/
structure PartsSafe (p : Params) (n : Nat) (s : State) : Prop where
  params : s.params = p
  dropped : n ≤ s.rx.dropCnt.toNat
  level : s.rx.levelSafe = true
  codes : s.cc.buf.all producible = true
  dec : s.dec.safe = true
  tx : s.tx.safe = true

section
variable {p : Params} {n : Nat} {s t : State}

/-! ## What the shared operations keep -/

theorem PartsSafe.writeSide (h : PartsSafe p n s) {c : Option Code} (hc : ∀ v, c = some v → producible v = true) :
    PartsSafe p n (s.writeSide c) := by
  obtain ⟨hlevel, hdrop⟩ := writeSide_rx s c
  refine ⟨(writeSide_params s c).trans h.params, h.dropped.trans hdrop, hlevel.trans h.level, ?codes,
    (writeSide_dec s c).symm ▸ h.dec, (writeSide_tx s c).symm ▸ h.tx⟩
  obtain hbuf | ⟨v, hv, hbuf⟩ := writeSide_buf s c
  · exact hbuf ▸ h.codes
  · have hprod : producible v = true := hv.elim (fun hv => hv ▸ rfl) (hc v)
    rw [hbuf, List.all_append, h.codes, List.all_cons, hprod]
    rfl

theorem PartsSafe.popCond (h : PartsSafe p n s) {c : Code} (hpop : s.popCond = some (c, t)) : PartsSafe p n t := by
  obtain ⟨rest, hbuf, rfl⟩ := popCond_eq_some.mp hpop
  have hcodes := h.codes
  rw [hbuf, List.all_cons, Bool.and_eq_true] at hcodes
  exact { h with codes := hcodes.2 }

theorem PartsSafe.reportDrained (h : PartsSafe p n s) (c : Code) : PartsSafe p n (s.reportDrained c) := by
  unfold State.reportDrained
  split
  · exact { h with }
  · exact h

theorem PartsSafe.applyDec (h : PartsSafe p n s) {r : Dec × DecOut} (hr : r.1.safe = true) :
    PartsSafe p n (s.applyDec r) := by
  obtain ⟨d, _ | _ | _ | _⟩ := r <;> exact { h with dec := hr }

/-! ## What the cycles keep -/

theorem PartsSafe.consCycle (h : PartsSafe p n s) (hs : consCycle s = .next t) : PartsSafe p n t := by
  obtain rfl | ⟨-, f, rest, -, rfl⟩ := consCycle_outcome hs
  · exact h
  · exact { h with }

theorem PartsSafe.rxCycle (h : PartsSafe p n s) (hs : rxCycle s = .next t) : PartsSafe p n t := by
  obtain rfl | ⟨o, rfl, ho⟩ := rxCycle_outcome hs
  · exact { h with level := rfl }
  · have hsafe : o.2.levelSafe = true ∧ ∀ c, o.1 = some c → producible c = true := by
      obtain rfl | rfl := ho
      exacts [detEvent_safe h.level, detTimeout_safe h.level]
    have hdrop : o.2.dropCnt = s.rx.dropCnt := by
      obtain rfl | rfl := ho
      exacts [detEvent_dropCnt _ _ _ _, detTimeout_dropCnt _ _ _]
    obtain ⟨hlevel, hcode⟩ := hsafe
    have hset : PartsSafe p n (s.setRx o.2) := { h with level := hlevel, dropped := hdrop.symm ▸ h.dropped }
    exact hset.writeSide hcode

theorem PartsSafe.hostCycle (h : PartsSafe p n s) (hs : hostCycle s = .next t) : PartsSafe p n t := by
  obtain ⟨r, x, io, rfl, rfl | ⟨t0, w, rfl⟩⟩ := hostCycle_effect hs
  · exact { h with }
  · exact { h with tx := rfl }

theorem PartsSafe.decoderCycle (h : PartsSafe p n s) {s0 : State} (hs : decoderCycle s0.decAction s = .next t) :
    PartsSafe p n t := by
  obtain rfl | rfl | ⟨-, c, v, u, hpop, rfl | hconsume⟩ := decoderCycle_outcome hs
  · exact h
  · exact { h with dec := Dec.safe_clearTo _ }
  · exact { (h.popCond hpop).reportDrained c with dec := Dec.safe_clearTo _ }
  · have hu := h.popCond hpop
    rw [runWord_cond] at hconsume
    split at hconsume <;> cases hconsume
    · exact hu
    · exact (hu.reportDrained c).applyDec (decEvent_safe c hu.dec)

theorem PartsSafe.txCycle (h : PartsSafe p n s) {busy : Bool} (hs : txCycle busy s = .next t) : PartsSafe p n t := by
  obtain rfl | ⟨t0, rfl | ⟨hbusy, hseg, rfl⟩⟩ := txCycle_outcome hs
  · exact h
  · exact { h with tx := rfl }
  · exact { h with tx := Tx.safe_next hbusy hseg t0 }

theorem PartsSafe.sysCycle (h : PartsSafe p n s) {s0 : State} (hs : sysCycle s0 s = .next t) : PartsSafe p n t := by
  obtain ⟨a, b, hhost, hdec, htx⟩ := sysCycle_eq_next.mp hs
  exact ((h.hostCycle hhost).decoderCycle hdec).txCycle htx

theorem PartsSafe.tickOps (h : PartsSafe p n s) {k : Tick} (hs : tickOps s k = .next t) : PartsSafe p n t := by
  obtain ⟨a, b, hcons, hrx, hsys⟩ := tickOps_eq_next.mp hs
  have ha : PartsSafe p n a := (edge_cases hcons).elim h.consCycle fun heq => heq ▸ h
  have hb : PartsSafe p n b := (edge_cases hrx).elim ha.rxCycle fun heq => heq ▸ ha
  exact (edge_cases hsys).elim hb.sysCycle fun heq => heq ▸ hb

theorem PartsSafe.shiftAll (h : PartsSafe p n s) (s0 : State) (k : Tick) : PartsSafe p n (s0.shiftAll s k) := by
  obtain ⟨_ | _, _ | _, _ | _⟩ := k <;> exact { h with }

theorem PartsSafe.clockStep (h : PartsSafe p n s) {k : Tick} (hs : clockStep s k = .next t) : PartsSafe p n t := by
  obtain ⟨u, hops, rfl⟩ := clockStep_eq_next.mp hs
  have hlatch : PartsSafe p n (s.latch k) := { h with }
  exact { (hlatch.tickOps hops).shiftAll (s.latch k) k with }

end

/-! ## Entries move only where the channel's flags let them (R98 to R100) -/

/-- From `c` to `c'` no entry goes in if the writer sees the channel full at `c`, and none comes out if the reader sees it
empty. -/
structure Chan.Judged {w : Nat} (c c' : Chan w) (depth : Nat) : Prop where
  room : c.fullW depth = true → c'.wcnt = c.wcnt
  seen : c.emptyR = true → c'.rcnt = c.rcnt

/-- R104: with the condition channel full the write side drops what it would push. -/
theorem writeSide_cc_of_full {s : State} (hfull : s.ccFull = true) (c : Option Code) : (s.writeSide c).cc = s.cc := by
  have hroom : s.ccFull ≠ false := by simp [hfull]
  obtain ⟨-, hw⟩ | ⟨-, -, h, -, -⟩ | ⟨-, -, h, -, -⟩ | ⟨-, -, h, -⟩ | ⟨-, -, -, hw⟩ | ⟨-, -, -, hw⟩ := writeSide_cases s c
  case inr.inl | inr.inr.inl | inr.inr.inr.inl => exact absurd h hroom
  all_goals rw [hw]; rfl

theorem rxCycle_cc_of_full {s t : State} (hfull : s.ccFull = true) (h : rxCycle s = .next t) : t.cc = s.cc := by
  obtain rfl | ⟨o, rfl, -⟩ := rxCycle_outcome h
  · rfl
  · exact writeSide_cc_of_full (s := s.setRx o.2) hfull o.1

theorem rxCycle_leaves {s t : State} (h : rxCycle s = .next t) : t.fc = s.fc ∧ t.params = s.params := by
  obtain rfl | ⟨o, rfl, -⟩ := rxCycle_outcome h
  · exact ⟨rfl, rfl⟩
  · exact ⟨applyDet_fc s o, applyDet_params s o⟩

theorem hostCycle_channels {s t : State} (h : hostCycle s = .next t) : t.cc = s.cc ∧ t.fc = s.fc ∧ t.params = s.params := by
  obtain ⟨r, x, p, rfl, -⟩ := hostCycle_effect h
  exact ⟨rfl, rfl, rfl⟩

theorem txCycle_channels {busy : Bool} {s t : State} (h : txCycle busy s = .next t) : t.cc = s.cc ∧ t.fc = s.fc := by
  obtain rfl | ⟨t0, rfl | ⟨-, -, rfl⟩⟩ := txCycle_outcome h <;> exact ⟨rfl, rfl⟩

/-- R100, R121: a decoder that saw the condition channel empty pops nothing. -/
theorem decoderCycle_cc_of_empty {s0 s t : State} (hseen : s0.cc.emptyR = true)
    (h : decoderCycle s0.decAction s = .next t) : t.cc = s.cc := by
  obtain rfl | rfl | ⟨hvisible, -⟩ := decoderCycle_outcome h
  · rfl
  · rfl
  · exact absurd (hseen.symm.trans hvisible) (by decide)

/-- R120: a decoder that sees the frame channel full pushes no frame. -/
theorem decoderCycle_fc_of_full {s0 s t : State} (hfull : s.fcFull = true)
    (h : decoderCycle s0.decAction s = .next t) : t.fc = s.fc := by
  obtain rfl | rfl | ⟨-, c, v, u, hpop, hdone⟩ := decoderCycle_outcome h
  · rfl
  · rfl
  · obtain ⟨rest, -, rfl⟩ := popCond_eq_some.mp hpop
    obtain rfl | hconsume := hdone
    · simp
    · rw [runWord_cond] at hconsume
      split at hconsume <;> cases hconsume
      next => rfl
      next hroom =>
        refine (applyDec_fc_of_no_frame _ fun f hf => hroom ?_).trans (reportDrained_fc _ c)
        exact Bool.and_eq_true_iff.mpr ⟨wouldEmit_of_frame hf, hfull⟩

/-- R99, R100: a `clk_sys` step pops what its start shows, pushes where it sees room, and does nothing else to the channels. -/
theorem sysCycle_judged {s0 s t : State} (h : sysCycle s0 s = .next t) :
    (s0.cc.emptyR = true → t.cc.rcnt = s.cc.rcnt) ∧ t.cc.wcnt = s.cc.wcnt ∧
    (s.fcFull = true → t.fc.wcnt = s.fc.wcnt) ∧ t.fc.rcnt = s.fc.rcnt := by
  obtain ⟨popped, pushed, -, -, hran⟩ := sysCycle_ran h
  obtain ⟨a, b, hhost, hdec, htx⟩ := sysCycle_eq_next.mp h
  obtain ⟨hcc, hfc, hp⟩ := hostCycle_channels hhost
  obtain ⟨hcc', hfc'⟩ := txCycle_channels htx
  refine ⟨fun hseen => ?_, hran.cond.wcnt, fun hfull => ?_, hran.frame.rcnt⟩
  · rw [hcc', decoderCycle_cc_of_empty hseen hdec, hcc]
  · have hfull' : a.fcFull = true := by rwa [State.fcFull, hfc, hp]
    rw [hfc', decoderCycle_fc_of_full hfull' hdec, hfc]

/-- R98 to R100: every entry that the operations of a tick move is one that the start of the tick lets move. -/
theorem tickOps_judged {s0 t : State} {k : Tick} (h : tickOps s0 k = .next t) :
    s0.cc.Judged t.cc s0.params.condDepth ∧ s0.fc.Judged t.fc s0.params.frameDepth := by
  obtain ⟨a, b, hcons, hrx, hsys⟩ := tickOps_eq_next.mp h
  have cons : a.cc = s0.cc ∧ a.params = s0.params ∧ a.fc.rsync = s0.fc.rsync ∧ a.fc.wcnt = s0.fc.wcnt ∧
      (s0.fc.emptyR = true → a.fc.rcnt = s0.fc.rcnt) := by
    obtain hcons | rfl := edge_cases hcons
    · obtain rfl | ⟨hvisible, f, rest, -, rfl⟩ := consCycle_outcome hcons
      · exact ⟨rfl, rfl, rfl, rfl, fun _ => rfl⟩
      · exact ⟨rfl, rfl, rfl, rfl, fun hseen => absurd (hseen.symm.trans hvisible) (by decide)⟩
    · exact ⟨rfl, rfl, rfl, rfl, fun _ => rfl⟩
  have rx : b.fc = a.fc ∧ b.params = a.params ∧ b.cc.rcnt = a.cc.rcnt ∧ (a.ccFull = true → b.cc = a.cc) := by
    obtain hrx | rfl := edge_cases hrx
    · obtain ⟨pushed, -, -, hran⟩ := rxCycle_ran hrx
      obtain ⟨hfc, hp⟩ := rxCycle_leaves hrx
      exact ⟨hfc, hp, hran.cond.rcnt, fun hfull => rxCycle_cc_of_full hfull hrx⟩
    · exact ⟨rfl, rfl, rfl, fun _ => rfl⟩
  have sys : (s0.cc.emptyR = true → t.cc.rcnt = b.cc.rcnt) ∧ t.cc.wcnt = b.cc.wcnt ∧
      (b.fcFull = true → t.fc.wcnt = b.fc.wcnt) ∧ t.fc.rcnt = b.fc.rcnt := by
    obtain hsys | rfl := edge_cases hsys
    · exact sysCycle_judged hsys
    · exact ⟨fun _ => rfl, rfl, fun _ => rfl, rfl⟩
  obtain ⟨hacc, hap, hars, haw, har⟩ := cons
  obtain ⟨hbfc, hbp, hbr, hbfull⟩ := rx
  obtain ⟨htr, htw, htfull, htfr⟩ := sys
  have hccFull : a.ccFull = s0.cc.fullW s0.params.condDepth := by rw [State.ccFull, hacc, hap]
  have hfcFull : b.fcFull = s0.fc.fullW s0.params.frameDepth := by
    rw [State.fcFull, hbfc, hbp, hap, Chan.fullW, Chan.fullW, Chan.rview, Chan.rview, hars, haw]
  refine ⟨⟨fun hfull => ?_, fun hseen => ?_⟩, ⟨fun hfull => ?_, fun hseen => ?_⟩⟩
  · rw [htw, hbfull (hccFull.trans hfull), hacc]
  · rw [htr hseen, hbr, hacc]
  · rw [htfull (hfcFull.trans hfull), hbfc, haw]
  · rw [htfr, hbfc, har hseen]

/-- The synchronisers move no entry. -/
theorem clockStep_judged {s t : State} {k : Tick} (h : clockStep s k = .next t) :
    s.cc.Judged t.cc s.params.condDepth ∧ s.fc.Judged t.fc s.params.frameDepth := by
  obtain ⟨u, hops, rfl⟩ := clockStep_eq_next.mp h
  obtain ⟨hcc, hfc⟩ := shiftAll_moved (s.latch k) u k
  obtain ⟨hcond, hframe⟩ := tickOps_judged hops
  exact ⟨⟨fun hfull => hcc.wcnt.trans (hcond.room hfull), fun hseen => hcc.rcnt.trans (hcond.seen hseen)⟩,
    ⟨fun hfull => hfc.wcnt.trans (hframe.room hfull), fun hseen => hfc.rcnt.trans (hframe.seen hseen)⟩⟩

end Sys2Proof.Machine
end

section
/-! PROOF. The invariant (R102 with R38, R39, R68, R95, R110, R116, R129): the stages of a count's synchroniser stay in order, a
channel stays safe, and so every step keeps the invariant and every run from reset has it. O57, O48. -/

namespace Sys2Proof.Machine

/-! ## Stages in order -/

theorem descends_cons {hi x lo : Nat} {rest : List Nat} :
    descends hi (x :: rest) lo = true ↔ x ≤ hi ∧ descends x rest lo = true := by
  simp [descends]

theorem le_of_descends {hi lo : Nat} {l : List Nat} (h : descends hi l lo = true) : lo ≤ hi := by
  induction l generalizing hi with
  | nil => exact of_decide_eq_true h
  | cons x rest ih =>
    obtain ⟨hx, hrest⟩ := descends_cons.mp h
    exact (ih hrest).trans hx

theorem headD_le_of_descends {hi lo : Nat} {l : List Nat} (h : descends hi l lo = true) : l.headD 0 ≤ hi := by
  cases l with
  | nil => exact Nat.zero_le hi
  | cons x rest => exact (descends_cons.mp h).1

/-- Only the first stage is held against the source. -/
theorem descends_of_headD_le {hi hi' lo : Nat} {l : List Nat} (hl : l ≠ []) (h : descends hi l lo = true)
    (hhi : l.headD 0 ≤ hi') : descends hi' l lo = true := by
  cases l with
  | nil => exact absurd rfl hl
  | cons x rest => exact descends_cons.mpr ⟨hhi, (descends_cons.mp h).2⟩

/-- Only the view is held against the bound. -/
theorem descends_iff_view {hi lo : Nat} {l : List Nat} (hl : l ≠ []) :
    descends hi l lo = true ↔ descends hi l 0 = true ∧ lo ≤ l.getLastD 0 := by
  induction l generalizing hi with
  | nil => exact absurd rfl hl
  | cons x rest ih =>
    cases rest with
    | nil => simp [descends]
    | cons y rest =>
      have hlast : (x :: y :: rest).getLastD 0 = (y :: rest).getLastD 0 := rfl
      rw [hlast, descends_cons, ih (List.cons_ne_nil y rest), descends_cons (x := x), and_assoc]

/-- R56: a shift of a sample that is not behind the first stage keeps the order. -/
theorem descends_shiftIn {hi x lo : Nat} {l : List Nat} (h : descends x l lo = true) (hx : x ≤ hi) :
    descends hi (shiftIn x l) lo = true := by
  induction l generalizing hi x with
  | nil => exact decide_eq_true ((of_decide_eq_true h).trans hx)
  | cons y rest ih =>
    obtain ⟨hy, hrest⟩ := descends_cons.mp h
    have hshift : shiftIn x (y :: rest) = x :: shiftIn y rest := rfl
    exact hshift ▸ descends_cons.mpr ⟨hx, ih hrest hy⟩

theorem descends_replicate_zero (n : Nat) : descends 0 (List.replicate n 0) 0 = true := by
  induction n with
  | zero => rfl
  | succ n ih => exact ih

/-! ## One step of a count's synchroniser -/

/-- R56: the stages stay, or shift in a sample between the first stage and the source. -/
def Sampled (src : Nat) (old new : List Nat) : Prop :=
  new = old ∨ ∃ x, (old.headD 0 ≤ src → old.headD 0 ≤ x ∧ x ≤ src) ∧ new = shiftIn x old

theorem Sampled.of_elim {ε : Type} {o : Option ε} {forced : Bool} {draw : ε → Nat} {src : Nat} {old new : List Nat}
    (h : new = o.elim old fun e => stepCountSync forced (draw e) src old) : Sampled src old new := by
  cases o with
  | none => exact .inl h
  | some e => exact .inr ⟨_, sampleCount_between, h⟩

theorem Sampled.length {src : Nat} {old new : List Nat} (h : Sampled src old new) : new.length = old.length := by
  obtain rfl | ⟨x, -, rfl⟩ := h
  · rfl
  · exact length_shiftIn x old

/-- R55, R56: the stages stay in order between a source and a bound that do not fall, as long as the bound does not pass the
view. -/
theorem Sampled.keeps_order {src src' lo lo' : Nat} {old new : List Nat} (h : Sampled src old new) (hold : old ≠ [])
    (hsafe : descends src old lo = true) (hsrc : src ≤ src') (hlo : lo' ≤ old.getLastD 0) : descends src' new lo' = true := by
  have hview : descends src old lo' = true := (descends_iff_view hold).mpr ⟨((descends_iff_view hold).mp hsafe).1, hlo⟩
  have hhead : old.headD 0 ≤ src := headD_le_of_descends hsafe
  obtain rfl | ⟨x, hx, rfl⟩ := h
  · exact descends_of_headD_le hold hview (hhead.trans hsrc)
  · obtain ⟨hxlo, hxhi⟩ := hx hhead
    exact descends_shiftIn (descends_of_headD_le hold hview hxlo) (hxhi.trans hsrc)

/-! ## Channel safety (R102) -/

section
variable {w stages depth : Nat} {c : Chan w}

/-- R102: the counts and the views, in order. -/
theorem Chan.counts_of_safe (h : c.safe stages depth = true) (hpos : 0 < stages) :
    c.rview ≤ c.rcnt ∧ c.rcnt ≤ c.wview ∧ c.wview ≤ c.wcnt ∧ c.wcnt ≤ c.rview + depth ∧
      c.buf.length = c.wcnt - c.rcnt := by
  obtain ⟨hlenW, hlenR, hw, hr, hbuf⟩ := Chan.safe_iff.mp h
  have hneW : c.wsync ≠ [] := List.ne_nil_of_length_pos (by omega)
  have hneR : c.rsync ≠ [] := List.ne_nil_of_length_pos (by omega)
  obtain ⟨hw0, hrw⟩ := (descends_iff_view hneW).mp hw
  obtain ⟨hr0, hwr⟩ := (descends_iff_view hneR).mp hr
  have hwview : c.wview ≤ c.wcnt := le_of_descends ((descends_iff_view hneW).mpr ⟨hw0, le_rfl⟩)
  have hrview : c.rview ≤ c.rcnt := le_of_descends ((descends_iff_view hneR).mpr ⟨hr0, le_rfl⟩)
  have hroom : c.wcnt - depth ≤ c.rview := hwr
  exact ⟨hrview, hrw, hwview, by omega, by omega⟩

/-- R99 to R102: a step that moves at most one entry in and one out, where the flags let them, keeps the channel safe. -/
theorem Chan.safe_step {c' : Chan w} {pushed popped : List (BitVec w)} (h : c.safe stages depth = true) (hpos : 0 < stages)
    (hmoved : c.Moved c' pushed popped) (hpush : pushed.length ≤ 1) (hpop : popped.length ≤ 1) (hjudged : c.Judged c' depth)
    (hwsync : Sampled c.wcnt c.wsync c'.wsync) (hrsync : Sampled c.rcnt c.rsync c'.rsync) :
    c'.safe stages depth = true := by
  obtain ⟨-, hseen, -, hroom, -⟩ := Chan.counts_of_safe h hpos
  obtain ⟨hlenW, hlenR, hw, hr, hbuf⟩ := Chan.safe_iff.mp h
  have hneW : c.wsync ≠ [] := List.ne_nil_of_length_pos (by omega)
  have hneR : c.rsync ≠ [] := List.ne_nil_of_length_pos (by omega)
  have hwcnt := hmoved.wcnt
  have hrcnt := hmoved.rcnt
  have hpops : c'.rcnt ≤ c.wview := by
    by_cases hempty : c.wview = c.rcnt
    · rw [hjudged.seen (beq_iff_eq.mpr hempty)]
      exact hseen
    · omega
  have hpushes : c'.wcnt - depth ≤ c.rview := by
    by_cases hfull : c.wcnt = c.rview + depth
    · rw [hjudged.room (beq_iff_eq.mpr hfull)]
      omega
    · omega
  have hlength : c.buf.length + pushed.length = popped.length + c'.buf.length := by
    simpa using congrArg List.length hmoved.entries
  exact Chan.safe_iff.mpr ⟨hwsync.length.trans hlenW, hrsync.length.trans hlenR,
    hwsync.keeps_order hneW hw (by omega) hpops, hrsync.keeps_order hneR hr (by omega) hpushes, by omega⟩

theorem Chan.safe_reset (w : Nat) (p : Params) (depth : Nat) : (Chan.reset w p).safe p.syncStages depth = true := by
  have hzeros := descends_replicate_zero p.syncStages
  exact Chan.safe_iff.mpr ⟨List.length_replicate, List.length_replicate, hzeros, (Nat.zero_sub depth).symm ▸ hzeros, rfl⟩

end

/-! ## The invariant -/

/-- R167: the invariant holds right after reset. -/
theorem inv_resetWith {p : Params} (hp : legalParams p = true) : Inv (State.resetWith p) where
  params := hp
  rxStages := ⟨List.length_replicate, List.length_replicate⟩
  level := rfl
  cond := Chan.safe_reset 4 p p.condDepth
  frame := Chan.safe_reset 32 p p.frameDepth
  codes := rfl
  active := List.length_replicate
  drop := ⟨List.length_replicate, by
    rw [show (State.resetWith p).views.dropSync = List.replicate p.syncStages 0 from rfl, List.map_replicate]
    exact descends_replicate_zero p.syncStages⟩
  dec := rfl
  tx := rfl

theorem Synchroniser.Lawful.length {α ε : Type} {y : Synchroniser α ε} (hy : y.Lawful) {s t : State} {k : Tick}
    (h : Stepped s t k) : (y.stages t).length = (y.stages s).length := by
  have hshift := hy.shift h
  cases hk : y.domain k <;> rw [hk] at hshift <;> simp [hshift]

/-- R33, R56: the stages of `drop_sync` as the numbers they stand for. -/
theorem Stepped.drop_sampled {s t : State} {k : Tick} (h : Stepped s t k) : Sampled s.rx.dropCnt.toNat
    (s.views.dropSync.map BitVec.toNat) (t.views.dropSync.map BitVec.toNat) := by
  have hdrop := h.sync.drop
  cases hk : k.sys with
  | none =>
    rw [hk] at hdrop
    exact .inl (congrArg _ hdrop)
  | some e =>
    rw [hk] at hdrop
    exact .inr ⟨_, sampleCount_between, (congrArg _ hdrop).trans (map_toNat_stepDropSync _ _ _ _)⟩

/-- R102, R95, R68, R110, R116, R129: clock edges keep the invariant. -/
theorem inv_clockStep {s t : State} {k : Tick} (hi : Inv s) (h : clockStep s k = .next t) : Inv t ∧ t.params = s.params := by
  have hpos := hi.syncStages_pos
  obtain ⟨hstep, -⟩ := clockStep_stepped h
  obtain ⟨hcondJudged, hframeJudged⟩ := clockStep_judged h
  obtain ⟨pushed, popped, hpush, hpop, -, hcond⟩ := hstep.cond
  obtain ⟨pushed', popped', hpush', hpop', hframe⟩ := hstep.frame
  obtain ⟨hsync, hen⟩ := hi.rxStages
  obtain ⟨hdropLen, hdrop⟩ := hi.drop
  have hparts : PartsSafe s.params s.rx.dropCnt.toNat t :=
    PartsSafe.clockStep ⟨rfl, le_rfl, hi.level, hi.codes, hi.dec, hi.tx⟩ h
  obtain ⟨hparams, hdropped, hlevel, hcodes, hdec, htx⟩ := hparts
  have hne : s.views.dropSync.map BitVec.toNat ≠ [] := List.ne_nil_of_length_pos (by simp [hdropLen, hpos])
  refine ⟨{ params := hparams ▸ hi.params, level := hlevel, codes := hcodes, dec := hdec, tx := htx, rxStages := ?rxStages,
            cond := ?cond, frame := ?frame, active := ?active, drop := ?drop }, hparams⟩
  all_goals rw [hparams]
  case rxStages => exact ⟨(lineSync_lawful.length hstep).trans hsync, (enableSync_lawful.length hstep).trans hen⟩
  case cond =>
    exact Chan.safe_step hi.cond hpos hcond hpush hpop hcondJudged (.of_elim hstep.sync.ccWrite) (.of_elim hstep.sync.ccRead)
  case frame =>
    exact Chan.safe_step hi.frame hpos hframe hpush' hpop' hframeJudged (.of_elim hstep.sync.fcWrite)
      (.of_elim hstep.sync.fcRead)
  case active => exact (activeSync_lawful.length hstep).trans hi.active
  case drop =>
    exact ⟨(dropSync_lawful.length hstep).trans hdropLen,
      hstep.drop_sampled.keeps_order hne hdrop hdropped (Nat.zero_le _)⟩

/-- Every step keeps the invariant and the parameters. -/
theorem inv_step {s t : State} (hi : Inv s) (h : step s = .next t) : Inv t ∧ t.params = s.params := by
  obtain ⟨ms, n, htake⟩ := takeMove_eq s
  have hi' : Inv s.takeMove.2 := htake ▸ { hi with }
  have hparams : s.takeMove.2.params = s.params := by rw [htake]; rfl
  rw [← hparams]
  obtain ⟨l, -, rfl⟩ | ⟨-, rfl⟩ | ⟨-, rfl⟩ | ⟨k, -, -, rfl⟩ | ⟨k, -, -, hk⟩ := applyMove_cases h
  case inl | inr.inr.inl => exact ⟨{ hi' with }, rfl⟩
  case inr.inl => exact ⟨{ inv_resetWith hi'.params with }, rfl⟩
  case inr.inr.inr.inl => exact ⟨hi', rfl⟩
  case inr.inr.inr.inr => exact inv_clockStep hi' hk

/-- The invariant holds of every state that a run from a state with it reaches. -/
theorem inv_run {n : Nat} {s t : State} (hi : Inv s) (h : Host.Core.run Sys2Proof.core n s = .next t) :
    Inv t ∧ t.params = s.params := by
  induction n generalizing s with
  | zero =>
    cases h
    exact ⟨hi, rfl⟩
  | succ n ih =>
    obtain ⟨u, hu, hrun⟩ := step_of_run h
    obtain ⟨hiu, hpu⟩ := inv_step hi hu
    obtain ⟨hit, hpt⟩ := ih hiu hrun
    exact ⟨hit, hpt.trans hpu⟩

end Sys2Proof.Machine

section
open Sys2Proof Sys2Proof.Machine

/-- Settles O57: a move of the line or of `rst` leaves or resets the block, and clock edges keep each part. -/
theorem stepKeepsTheInvariant : Obligations.StepKeepsTheInvariant := fun _ _ hi h => (inv_step hi h).1

/-- Settles O48: the invariant holds of every state that a run from reset reaches, and it has both channels safe. -/
theorem channelsAreSafeWhenReachable : Obligations.ChannelsAreSafeWhenReachable := by
  intro p ms n s hp hrun
  have hreset : Inv ((State.resetWith p).setMoves ms) := { inv_resetWith hp with }
  obtain ⟨hi, hparams⟩ := inv_run hreset hrun
  have hpos := hi.syncStages_pos
  have hsp : s.params = p := hparams
  obtain ⟨-, -, -, hcond, hframe, -⟩ := hi
  rw [hsp] at hcond hframe hpos
  exact ⟨Chan.counts_of_safe hcond hpos, Chan.counts_of_safe hframe hpos⟩

end
end

section
/-! PROOF. A count that has stopped changing (R103): a channel's counts do not fall, so one that ends where it began has stayed
unchanged in between. O52. -/

namespace Sys2Proof.Machine

/-- R50: along a run without a reset a count that does not fall lies between its first and its last value; if these are
equal, it stays unchanged. -/
theorem staysDuring_of_monotone {src : State → Nat} (hmono : ∀ {s t : State} {k : Tick}, Stepped s t k → src s ≤ src t)
    {rest : List Move} : ∀ (ms : List Move) {s t : State}, .rst true ∉ ms → s.moves = ms ++ rest →
    Host.Core.run Sys2Proof.core ms.length s = .next t → src s ≤ src t ∧ (src s = src t → StaysDuring s ms.length src)
  | [], s, t, _, _, hrun => by
    cases hrun
    refine ⟨le_rfl, fun _ j u hj hu => ?_⟩
    obtain rfl : j = 0 := Nat.le_zero.mp hj
    cases hu
    rfl
  | m :: ms, s, t, hno, hmoves, hrun => by
    obtain ⟨u, hu, hrun⟩ := step_of_run hrun
    obtain ⟨hfirst, hno⟩ := not_or.mp (mt List.mem_cons.mpr hno)
    have htake : s.takeMove = (m, s.setMoves (ms ++ rest)) := takeMove_of_moves hmoves
    obtain ⟨hstepped, hrest⟩ := step_stepped (htake ▸ Ne.symm hfirst) hu
    rw [htake] at hrest
    have hsu : src s ≤ src u := hmono hstepped
    obtain ⟨hut, hstay⟩ := staysDuring_of_monotone hmono ms hno hrest hrun
    refine ⟨hsu.trans hut, fun heq j v hj hv => ?_⟩
    cases j with
    | zero => cases hv; rfl
    | succ j =>
      have hus : src u = src s := by omega
      rw [run_succ_of_step hu] at hv
      exact (hstay (by omega) j v (Nat.le_of_succ_le_succ hj) hv).trans hus

section
variable {s t : State} {k : Tick}

/-! The counts of a channel do not fall. -/

theorem Stepped.cond_counts (h : Stepped s t k) : s.cc.wcnt ≤ t.cc.wcnt ∧ s.cc.rcnt ≤ t.cc.rcnt := by
  obtain ⟨_, _, -, -, -, hmoved⟩ := h.cond
  exact ⟨Nat.le.intro hmoved.wcnt.symm, Nat.le.intro hmoved.rcnt.symm⟩

theorem Stepped.frame_counts (h : Stepped s t k) : s.fc.wcnt ≤ t.fc.wcnt ∧ s.fc.rcnt ≤ t.fc.rcnt := by
  obtain ⟨_, _, -, -, hmoved⟩ := h.frame
  exact ⟨Nat.le.intro hmoved.wcnt.symm, Nat.le.intro hmoved.rcnt.symm⟩

end

end Sys2Proof.Machine

section
open Sys2Proof Sys2Proof.Machine

/-- Settles O52: a count that ends where it began has stayed unchanged, and O51 says what the views then show. -/
theorem viewsCatchUpWithAnUnchangingCount : Obligations.ViewsCatchUpWithAnUnchangingCount := by
  intro s t ms hi hr hno hrun rxSteps sysSteps consSteps
  have hmoves : (s.setMoves ms).moves = ms ++ [] := (List.append_nil ms).symm
  have stays {src : State → Nat} (hmono : ∀ {s t : State} {k : Tick}, Stepped s t k → src s ≤ src t)
      (heq : src (s.setMoves ms) = src t) : StaysDuring (s.setMoves ms) ms.length src :=
    (staysDuring_of_monotone hmono ms hno hmoves hrun).2 heq
  obtain ⟨-, -, condRead, -, condWrite, frameRead, -, frameWrite⟩ :=
    unchangedSourceIsHeld (s.setMoves ms) t ms [] { hi with } hr hno hmoves hrun
  exact ⟨fun hn heq => (condWrite (stays (fun h => h.cond_counts.1) heq)).2 hn,
    fun hn heq => (condRead (stays (fun h => h.cond_counts.2) heq)).2 hn,
    fun hn heq => (frameWrite (stays (fun h => h.frame_counts.1) heq)).2 hn,
    fun hn heq => (frameRead (stays (fun h => h.frame_counts.2) heq)).2 hn⟩

end
end

section
/-! PROOF. The channel operations (R98 to R100), the condition channel's write side (R104) and the consumer port (R108).
O26, O45, O46, O47. -/

namespace Sys2Proof.Machine

/-! ## The flags (R98) -/

theorem ccFull_iff {s : State} : s.ccFull = true ↔ s.cc.wcnt = s.cc.rsync.getLastD 0 + s.params.condDepth := beq_iff_eq

theorem fcFull_iff {s : State} : s.fcFull = true ↔ s.fc.wcnt = s.fc.rsync.getLastD 0 + s.params.frameDepth := beq_iff_eq

theorem Chan.emptyR_iff {w : Nat} {c : Chan w} : c.emptyR = true ↔ c.wsync.getLastD 0 = c.rcnt := beq_iff_eq

/-! ## Drops (R104) -/

/-- R14: the saturated count is the largest one. -/
theorem satinc16_eq (x : Half) : satinc16 x = if x = 0xFFFF then 0xFFFF else x + 1 := by
  by_cases hx : x = 0xFFFF#16
  · subst hx; rfl
  · exact (if_neg hx).trans (if_neg hx).symm

theorem dropCond_eq (s : State) : s.dropCond = s.setRx { s.rx with
    dropCnt := if s.rx.dropCnt = 0xFFFF then 0xFFFF else s.rx.dropCnt + 1, ovfPending := true } := by
  rw [State.dropCond, satinc16_eq]

/-! ## Pops (R100) -/

theorem readCond_of_empty {s : State} (h : s.cc.emptyR = true) : s.readCond = .next s := if_pos h

theorem readFrame_of_empty {s : State} (h : s.fc.emptyR = true) : s.readFrame = .next s := if_pos h

theorem readCond_of_head {s : State} {c : Code} {rest : List Code} (h : ¬s.cc.emptyR = true) (hbuf : s.cc.buf = c :: rest) :
    s.readCond = .next
      ((s.setCc { s.cc with buf := rest, rcnt := s.cc.rcnt + 1 }).setIo { s.io with condPopped := some c }) := by
  rw [State.readCond, if_neg h, popCond_eq_some.mpr ⟨rest, hbuf, rfl⟩]

theorem readFrame_of_head {s : State} {f : Word} {rest : List Word} (h : ¬s.fc.emptyR = true) (hbuf : s.fc.buf = f :: rest) :
    s.readFrame = .next
      ((s.setFc { s.fc with buf := rest, rcnt := s.fc.rcnt + 1 }).setIo { s.io with framePopped := some f }) := by
  rw [State.readFrame, if_neg h, popFrame_eq_some.mpr ⟨rest, hbuf, rfl⟩]

/-! ## The consumer port's outputs (R108) -/

theorem frameValid_iff {s : State} : s.frameValid = true ↔ ¬s.fc.emptyR = true := by
  simp [State.frameValid]

theorem frameData_of_invalid {s : State} (h : s.frameValid = false) : s.frameData = 0 := by
  rw [State.frameData, h]; rfl

theorem frameData_of_head {s : State} {f : Word} {rest : List Word} (h : s.frameValid = true) (hbuf : s.fc.buf = f :: rest) :
    s.frameData = f := by
  rw [State.frameData, if_pos h, hbuf]; rfl

end Sys2Proof.Machine

section
open Sys2Proof Sys2Proof.Machine

/-- Settles O26: the branches of R104 are those of `writeSide_cases`. -/
theorem writeSideNeverDropsSilently : Obligations.WriteSideNeverDropsSilently := by
  intro s c full bump said push
  have room (h : s.ccFull = false) : ¬full := fun hf => absurd ((ccFull_iff.mpr hf).symm.trans h) (by decide)
  have enabled (h : s.rxEnView = true) : ¬s.rx.enSync.getLastD false = false := fun hf =>
    absurd (h.symm.trans hf) (by decide)
  obtain ⟨hen, hw⟩ | ⟨hen, hovf, hroom, hc, hw⟩ | ⟨hen, hovf, hroom, hc, hw⟩ | ⟨hen, hovf, hroom, v, hc, hw⟩ |
    ⟨hen, hfull, hc, hw⟩ | ⟨hen, hc, hno, hw⟩ := writeSide_cases s c
  case inl => exact (if_pos hen).mpr hw
  all_goals rw [if_neg (enabled hen)]
  case inr.inl =>
    subst hc
    rw [if_pos ⟨hovf, room hroom⟩, hw]
    rfl
  case inr.inr.inl =>
    rw [if_pos ⟨hovf, room hroom⟩, hw, if_pos (Option.isSome_iff_ne_none.mpr hc), dropCond_eq]
    rfl
  case inr.inr.inr.inl =>
    subst hc
    have hnot : ¬(s.rx.ovfPending = true ∧ ¬full) := fun h => absurd (h.1.symm.trans hovf) (by decide)
    rw [if_neg hnot]
    exact (if_neg (room hroom)).mpr hw
  case inr.inr.inr.inr.inl =>
    obtain ⟨v, rfl⟩ := Option.ne_none_iff_exists'.mp hc
    rw [if_neg fun h => h.2 (ccFull_iff.mp hfull)]
    exact (if_pos (ccFull_iff.mp hfull)).mpr (hw.trans (dropCond_eq _))
  case inr.inr.inr.inr.inr =>
    subst hc
    have hnot : ¬(s.rx.ovfPending = true ∧ ¬full) := fun ⟨hovf, hroom⟩ =>
      hno.elim (fun h => absurd (hovf.symm.trans h) (by decide)) fun hfull => hroom (ccFull_iff.mp hfull)
    rw [if_neg hnot]
    exact hw

/-- Settles O45: the writer's flag decides, on each channel. -/
theorem pushAppendsAtTheTail : Obligations.PushAppendsAtTheTail := by
  intro s c f
  refine ⟨?cc, ?fc⟩
  case cc =>
    split
    case isTrue hfull => exact if_pos (ccFull_iff.mpr hfull)
    case isFalse hroom => exact if_neg (mt ccFull_iff.mp hroom)
  case fc =>
    split
    case isTrue hfull => exact if_pos (fcFull_iff.mpr hfull)
    case isFalse hroom => exact if_neg (mt fcFull_iff.mp hroom)

/-- Settles O46: the reader's flag decides, on each channel. -/
theorem popTakesTheHead : Obligations.PopTakesTheHead := fun _ =>
  ⟨fun hempty => readCond_of_empty (Chan.emptyR_iff.mpr hempty),
    fun hempty => readFrame_of_empty (Chan.emptyR_iff.mpr hempty),
    fun _ _ hseen hbuf => readCond_of_head (mt Chan.emptyR_iff.mp hseen) hbuf,
    fun _ _ hseen hbuf => readFrame_of_head (mt Chan.emptyR_iff.mp hseen) hbuf⟩

/-- Settles O47: `frame_valid` is the reader's flag, and FRAME_POP the pop of the frame channel. -/
theorem framePopTakesFrameData : Obligations.FramePopTakesFrameData := by
  refine fun s => ⟨fun hview => ?empty, fun f rest hview hbuf => ?head⟩
  case empty =>
    have hempty : s.fc.emptyR = true := Chan.emptyR_iff.mpr hview
    have hinvalid : s.frameValid = false := Bool.eq_false_iff.mpr fun hvalid => frameValid_iff.mp hvalid hempty
    exact ⟨hinvalid, frameData_of_invalid hinvalid, readFrame_of_empty hempty⟩
  case head =>
    have hseen : ¬s.fc.emptyR = true := mt Chan.emptyR_iff.mp hview
    have hvalid : s.frameValid = true := frameValid_iff.mpr hseen
    exact ⟨hvalid, frameData_of_head hvalid hbuf, readFrame_of_head hseen hbuf⟩

end
end

section
/-! PROOF. The consumption of one condition word (R110 to R120): what each condition makes of the decoder in each of its
states, and the operation that reports it. O29, O30, O31, O32, O33. -/

namespace Sys2Proof.Machine

/-! ## The appended bit (R111) -/

/-- R111: the bit count saturates at 63. -/
theorem Dec.toNat_append_cnt (d : Dec) (b : Bool) : (d.append b).cnt.toNat = min (d.cnt.toNat + 1) 63 := by
  simp only [Dec.append]
  split <;> bv_omega

/-- R111: a bit is stored at the bit count, and past the 32nd nowhere. -/
theorem Dec.getLsbD_append_acc (d : Dec) (b : Bool) {i : Nat} (hi : i < 32) :
    (d.append b).acc.getLsbD i = if i = d.cnt.toNat then b else d.acc.getLsbD i := by
  have hplace : (1#32 <<< d.cnt.toNat).getLsbD i = decide (i = d.cnt.toNat) := by
    rw [BitVec.getLsbD_shiftLeft, BitVec.getLsbD_one]
    grind
  simp only [Dec.append]
  split
  case isFalse hcnt => rw [if_neg (by omega)]
  case isTrue hcnt =>
    cases b with
    | true =>
      rw [if_pos rfl, BitVec.getLsbD_or, hplace]
      grind
    | false =>
      rw [if_neg (by decide), BitVec.getLsbD_and, BitVec.getLsbD_not, hplace]
      grind

/-! ## Everything a condition does to the decoder -/

section
variable {d : Dec}

theorem decMark_of_waitSync (h : d.state = .waitSync) : decMark d = (d, .nothing) := by
  simp only [decMark, h]

theorem decMark_of_waitBitStart (h : d.state = .waitBitStart) :
    decMark d = ({ d with state := .waitSpace }, .nothing) := by
  simp only [decMark, h]

theorem decMark_of_waitMark (h : d.state = .waitMark) :
    decMark d = ({ d.append false with state := .waitBitStart }, .nothing) := by
  simp only [decMark, h]

theorem decMark_of_waitSpace (h : d.state = .waitSpace) : decMark d = decViolation := by
  simp only [decMark, h]

theorem decSpace_of_waitSync (h : d.state = .waitSync) : decSpace d = (d, .nothing) := by
  simp only [decSpace, h]

theorem decSpace_of_waitBitStart (h : d.state = .waitBitStart) :
    decSpace d = ({ d with state := .waitMark }, .nothing) := by
  simp only [decSpace, h]

theorem decSpace_of_waitSpace (h : d.state = .waitSpace) :
    decSpace d = ({ d.append true with state := .waitBitStart }, .nothing) := by
  simp only [decSpace, h]

theorem decSpace_of_waitMark (h : d.state = .waitMark) : decSpace d = decViolation := by
  simp only [decSpace, h]

theorem decPause_of_waitSync (h : d.state = .waitSync) : decPause d = (d, .nothing) := by
  simp only [decPause, h]

theorem decPause_of_waitBitStart (h : d.state = .waitBitStart) :
    decPause d = (Dec.clearTo .waitSync, if d.cnt = 32#6 then .frame (permP d.acc) else .discard) := by
  simp only [decPause, h]

/-- R118: a PAUSE inside a logical bit. -/
theorem decPause_of_inside_bit (h : d.state = .waitSpace ∨ d.state = .waitMark) : decPause d = decViolation := by
  obtain h | h := h <;> simp only [decPause, h]

theorem decOther_of_waitSync (h : d.state = .waitSync) : decOther d = (d, .nothing) := by
  simp only [decOther, h]

theorem decOther_of_ne_waitSync (h : d.state ≠ .waitSync) : decOther d = decViolation := by
  cases hs : d.state with
  | waitSync => exact absurd hs h
  | waitBitStart | waitSpace | waitMark => simp only [decOther, hs]

end

/-- R67, R68: the codes from 4 on are those of R119. -/
theorem decEvent_of_ge_four {c : Code} (h : 4 ≤ c.toNat) (d : Dec) : decEvent c d = decOther d := by
  have hne : ∀ v : Code, v.toNat < 4 → c ≠ v := fun v hv heq => absurd (heq ▸ h) (by omega)
  rw [decEvent, if_neg (hne _ (by decide)), if_neg (hne _ (by decide)), if_neg (hne _ (by decide)),
    if_neg (hne _ (by decide))]

/-! ## The report of what it does (R113, R118, R121) -/

/-- R113: a violation on the way to the decoder state `d`. -/
theorem applyDec_violation_eq (s : State) (d : Dec) : s.applyDec (d, .violation) = (s.setDec d).setRegs { s.regs with
    violationCnt := if s.regs.violationCnt = 0xFFFF then 0xFFFF else s.regs.violationCnt + 1 } := by
  rw [applyDec_violation, State.countViolation, setDec_regs, satinc16_eq]

/-- R118: a discard on the way to the decoder state `d`. -/
theorem applyDec_discard_eq (s : State) (d : Dec) : s.applyDec (d, .discard) = (s.setDec d).setRegs { s.regs with
    discardCnt := if s.regs.discardCnt = 0xFFFF then 0xFFFF else s.regs.discardCnt + 1 } := by
  rw [applyDec_discard, State.countDiscard, setDec_regs, satinc16_eq]

/-- A decoder that keeps its state and puts out nothing leaves the block as it is. -/
theorem applyDec_idle (s : State) : s.applyDec (s.dec, .nothing) = s := rfl

/-- R119: consuming any other condition. -/
theorem consumeOther_eq (s : State) : s.consumeOther = if s.dec.state = .waitSync then s
    else (s.setDec { state := .waitSync, acc := 0, cnt := 0 }).setRegs { s.regs with
      violationCnt := if s.regs.violationCnt = 0xFFFF then 0xFFFF else s.regs.violationCnt + 1 } := by
  unfold State.consumeOther
  split
  case isTrue h => rw [decOther_of_waitSync h, applyDec_idle]
  case isFalse h =>
    rw [decOther_of_ne_waitSync h]
    exact applyDec_violation_eq s _

/-- R120: when the PAUSE would emit. -/
theorem wouldEmit_pause_iff {s : State} :
    s.wouldEmit codePause = true ↔ s.dec.state = .waitBitStart ∧ s.dec.cnt = 32#6 := by
  simp [State.wouldEmit]

/-! ## The operations -/

theorem exec_condMark (s : State) : exec .condMark s = .next (s.applyDec (decMark s.dec)) := rfl

theorem exec_condSpace (s : State) : exec .condSpace s = .next (s.applyDec (decSpace s.dec)) := rfl

theorem exec_condSync (s : State) : exec .condSync s = .next (s.applyDec (decSync s.dec)) := rfl

/-- R120: the PAUSE that would emit into a full frame channel is not consumed. -/
theorem exec_condPause_of_no_room {s : State} (hstate : s.dec.state = .waitBitStart) (hcnt : s.dec.cnt = 32#6)
    (hfull : s.fcFull = true) : exec .condPause s = .next s :=
  if_pos (Bool.and_eq_true_iff.mpr ⟨wouldEmit_pause_iff.mpr ⟨hstate, hcnt⟩, hfull⟩)

/-- R118: every other PAUSE is. -/
theorem exec_condPause {s : State} (h : s.dec.state = .waitBitStart → s.dec.cnt = 32#6 → ¬s.fcFull = true) :
    exec .condPause s = .next (s.applyDec (decPause s.dec)) := by
  refine if_neg fun hstall => ?_
  obtain ⟨hemit, hfull⟩ := Bool.and_eq_true_iff.mp hstall
  obtain ⟨hstate, hcnt⟩ := wouldEmit_pause_iff.mp hemit
  exact h hstate hcnt hfull

end Sys2Proof.Machine

section
open Sys2Proof Sys2Proof.Machine

/-- Settles O29: SYNC clears the partial frame whatever the state, and reports a violation outside `WaitSync`. -/
theorem syncRestartsTheFrame : Obligations.SyncRestartsTheFrame := by
  refine fun s => ⟨?_, rfl⟩
  rw [exec_condSync, decSync]
  split
  case isTrue h => exact congrArg _ (applyDec_nothing s _)
  case isFalse h => exact congrArg _ (applyDec_violation_eq s _)

/-- Settles O30: MARK in each state; the appended bit is logical 0. -/
theorem markResult : Obligations.MarkResult := by
  intro s
  rw [exec_condMark]
  refine ⟨fun h => ?sync, fun h => ?start, fun h => ?mark, fun h => ?space, rfl⟩
  case sync => rw [decMark_of_waitSync h, applyDec_idle]
  case start => rw [decMark_of_waitBitStart h, applyDec_nothing]
  case mark =>
    rw [decMark_of_waitMark h]
    exact ⟨_, rfl, rfl, s.dec.toNat_append_cnt false, fun i hi => s.dec.getLsbD_append_acc false hi⟩
  case space =>
    rw [decMark_of_waitSpace h]
    exact congrArg _ (applyDec_violation_eq s _)

/-- Settles O31: SPACE in each state; the appended bit is logical 1. -/
theorem spaceResult : Obligations.SpaceResult := by
  intro s
  rw [exec_condSpace]
  refine ⟨fun h => ?sync, fun h => ?start, fun h => ?space, fun h => ?mark, rfl⟩
  case sync => rw [decSpace_of_waitSync h, applyDec_idle]
  case start => rw [decSpace_of_waitBitStart h, applyDec_nothing]
  case space =>
    rw [decSpace_of_waitSpace h]
    exact ⟨_, rfl, rfl, s.dec.toNat_append_cnt true, fun i hi => s.dec.getLsbD_append_acc true hi⟩
  case mark =>
    rw [decSpace_of_waitMark h]
    exact congrArg _ (applyDec_violation_eq s _)

/-- Settles O32: PAUSE in each state; between two bits the bit count and the room decide. -/
theorem pauseResult : Obligations.PauseResult := by
  refine fun s => ⟨fun h => ?sync, fun h hcnt hroom => ?emit, fun h hcnt hfull => ?noRoom, fun h hcnt => ?discard,
    fun h => ?inside, rfl⟩
  case sync =>
    rw [exec_condPause fun hstart => absurd (h.symm.trans hstart) (by decide), decPause_of_waitSync h, applyDec_idle]
  case emit =>
    rw [exec_condPause fun _ _ => mt fcFull_iff.mp hroom, decPause_of_waitBitStart h, if_pos hcnt, applyDec_frame]
    rfl
  case noRoom => exact exec_condPause_of_no_room h hcnt (fcFull_iff.mpr hfull)
  case discard =>
    rw [exec_condPause fun _ h32 => absurd h32 hcnt, decPause_of_waitBitStart h, if_neg hcnt]
    exact congrArg _ (applyDec_discard_eq s _)
  case inside =>
    have hnot : s.dec.state ≠ .waitBitStart := by
      obtain h | h := h <;> rw [h] <;> decide
    rw [exec_condPause fun hstart => absurd hstart hnot, decPause_of_inside_bit h]
    exact congrArg _ (applyDec_violation_eq s _)

/-- Settles O33: each operation of R119 is the same consumption, OVERFLOW after its report. -/
theorem otherCodesAreViolations : Obligations.OtherCodesAreViolations := by
  intro s x1 x2 out
  have hother : ∀ u : State, u.consumeOther = out u := consumeOther_eq
  refine ⟨congrArg _ (hother s), congrArg _ (hother s), congrArg _ (hother s), congrArg _ (hother s),
    congrArg _ (hother s), congrArg _ (hother _), congrArg _ (hother s), congrArg _ (hother s), fun c hc => ?code⟩
  case code =>
    have hpause : c ≠ codePause := fun heq => absurd (heq ▸ hc) (by decide)
    change runWord (.cond c) s = _
    rw [runWord_cond, wouldEmit_of_ne_pause hpause, decEvent_of_ge_four hc, State.reportDrained]
    by_cases hovf : c = codeOverflow
    · subst hovf
      exact congrArg _ (hother s.raiseCondOvf)
    · have hcode : c.toNat ≠ 9 := fun h9 => hovf (BitVec.eq_of_toNat_eq h9)
      rw [if_neg hovf, if_neg hcode]
      exact congrArg _ (hother s)

end
end

section
/-! PROOF. Sequences of conditions (R114, R122, R123): everything that one condition does to the decoder, the decoder after SYNC
and some logical bits, and what a decoder outside `WaitSync` has last received. O36, O37, O38. -/

namespace Sys2Proof.Machine

/-! ## One condition -/

/-- R115 to R119: the next decoder state and the output that the decoder state `d` gives for a condition. -/
inductive DecStep (d : Dec) : Code → Dec × DecOut → Prop where
  /-- In `WaitSync` only a SYNC has an effect. -/
  | ignored {c : Code} : d.state = .waitSync → c ≠ codeSync → DecStep d c (d, .nothing)
  | sync : DecStep d codeSync (Dec.clearTo .waitBitStart, if d.state = .waitSync then .nothing else .violation)
  /-- The first condition of a logical 1 and of a logical 0 (R74). -/
  | firstMark : d.state = .waitBitStart → DecStep d codeMark ({ d with state := .waitSpace }, .nothing)
  | firstSpace : d.state = .waitBitStart → DecStep d codeSpace ({ d with state := .waitMark }, .nothing)
  /-- The second condition appends the bit. -/
  | one : d.state = .waitSpace → DecStep d codeSpace ({ d.append true with state := .waitBitStart }, .nothing)
  | zero : d.state = .waitMark → DecStep d codeMark ({ d.append false with state := .waitBitStart }, .nothing)
  | pause : d.state = .waitBitStart → DecStep d codePause
      (Dec.clearTo .waitSync, if d.cnt = 32#6 then .frame (permP d.acc) else .discard)
  | violation {c : Code} : d.state ≠ .waitSync → c ≠ codeSync → DecStep d c decViolation

theorem decEvent_step (c : Code) (d : Dec) : DecStep d c (decEvent c d) := by
  unfold decEvent
  split
  case isTrue hc =>
    subst hc
    cases hs : d.state with
    | waitSync => exact decMark_of_waitSync hs ▸ .ignored hs (by decide)
    | waitBitStart => exact decMark_of_waitBitStart hs ▸ .firstMark hs
    | waitMark => exact decMark_of_waitMark hs ▸ .zero hs
    | waitSpace => exact decMark_of_waitSpace hs ▸ .violation (by simp [hs]) (by decide)
  split
  case isTrue hc =>
    subst hc
    cases hs : d.state with
    | waitSync => exact decSpace_of_waitSync hs ▸ .ignored hs (by decide)
    | waitBitStart => exact decSpace_of_waitBitStart hs ▸ .firstSpace hs
    | waitSpace => exact decSpace_of_waitSpace hs ▸ .one hs
    | waitMark => exact decSpace_of_waitMark hs ▸ .violation (by simp [hs]) (by decide)
  split
  case isTrue hc => exact hc ▸ .sync
  split
  case isTrue hc =>
    subst hc
    cases hs : d.state with
    | waitSync => exact decPause_of_waitSync hs ▸ .ignored hs (by decide)
    | waitBitStart => exact decPause_of_waitBitStart hs ▸ .pause hs
    | waitSpace => exact decPause_of_inside_bit (.inl hs) ▸ .violation (by simp [hs]) (by decide)
    | waitMark => exact decPause_of_inside_bit (.inr hs) ▸ .violation (by simp [hs]) (by decide)
  case isFalse hsync _ =>
    by_cases hs : d.state = .waitSync
    · exact decOther_of_waitSync hs ▸ .ignored hs hsync
    · exact decOther_of_ne_waitSync hs ▸ .violation hs hsync

/-- R118: a frame is put out only for a PAUSE between two bits after 32 of them, and it is P of those. -/
theorem decEvent_frame {c : Code} {d : Dec} {f : Word} (h : (decEvent c d).2 = .frame f) :
    c = codePause ∧ d.state = .waitBitStart ∧ d.cnt = 32#6 ∧ f = permP d.acc := by
  have hstep := decEvent_step c d
  generalize decEvent c d = r at h hstep
  cases hstep with
  | sync =>
    simp only at h
    split at h <;> cases h
  | pause hs =>
    simp only at h
    split at h <;> cases h
    exact ⟨rfl, hs, ‹_›, rfl⟩
  | ignored | firstMark | firstSpace | one | zero | violation => cases h

/-- R113, R115: a violation clears the partial frame, and waits for a SYNC unless it is one. -/
theorem decEvent_violation {c : Code} {d : Dec} (h : (decEvent c d).2 = .violation) :
    decEvent c d = decViolation ∨ c = codeSync ∧ (decEvent c d).1 = Dec.clearTo .waitBitStart := by
  have hstep := decEvent_step c d
  generalize decEvent c d = r at h hstep ⊢
  cases hstep with
  | sync => exact .inr ⟨rfl, rfl⟩
  | violation => exact .inl rfl
  | pause =>
    simp only at h
    split at h <;> cases h
  | ignored | firstMark | firstSpace | one | zero => cases h

/-- R114: in `WaitSync` every condition but a SYNC changes nothing. -/
theorem decEvent_of_waitSync {c : Code} {d : Dec} (hs : d.state = .waitSync) (hc : c ≠ codeSync) :
    decEvent c d = (d, .nothing) := by
  have hstep := decEvent_step c d
  generalize decEvent c d = r at hstep ⊢
  cases hstep with
  | ignored => rfl
  | sync => exact absurd rfl hc
  | violation h => exact absurd hs h
  | firstMark h | firstSpace h | one h | zero h | pause h => exact absurd (hs.symm.trans h) (by decide)

/-! ## A sequence of conditions, by its last one -/

theorem decRun_concat (l : List Code) (c : Code) (d : Dec) : decRun (l ++ [c]) d =
    ((decEvent c (decRun l d).1).1, (decRun l d).2 ++ [(decEvent c (decRun l d).1).2]) := decRun_append l [c] d

theorem getLast?_decRun_concat (l : List Code) (c : Code) (d : Dec) :
    (decRun (l ++ [c]) d).2.getLast? = some (decEvent c (decRun l d).1).2 := by
  rw [decRun_concat, List.getLast?_concat]

/-! ## The bits since the last SYNC -/

/-- The decoder after a SYNC and the logical bits `bs`. -/
def collected (bs : List Bool) : Dec := bs.foldl Dec.append (Dec.clearTo .waitBitStart)

theorem collected_concat (bs : List Bool) (b : Bool) : collected (bs ++ [b]) = (collected bs).append b :=
  List.foldl_concat _ _ _ _

theorem collected_state (bs : List Bool) : (collected bs).state = .waitBitStart := by
  induction bs using List.reverseRecOn with
  | nil => rfl
  | append_singleton bs b ih => exact collected_concat bs b ▸ ih

/-- R111: the bits are counted, up to 63. -/
theorem toNat_collected_cnt (bs : List Bool) : (collected bs).cnt.toNat = min bs.length 63 := by
  induction bs using List.reverseRecOn with
  | nil => rfl
  | append_singleton bs b ih =>
    rw [collected_concat, Dec.toNat_append_cnt, ih, List.length_append, List.length_singleton]
    omega

theorem collected_cnt_eq_32_iff {bs : List Bool} : (collected bs).cnt = 32#6 ↔ bs.length = 32 := by
  have hcnt := toNat_collected_cnt bs
  rw [← BitVec.toNat_inj, hcnt, BitVec.toNat_ofNat]
  omega

/-- R111: the first 32 bits are stored in order, and nothing else is. -/
theorem getLsbD_collected_acc (bs : List Bool) {i : Nat} (hi : i < 32) :
    (collected bs).acc.getLsbD i = bs.getD i false := by
  induction bs using List.reverseRecOn with
  | nil => exact BitVec.getLsbD_zero
  | append_singleton bs b ih =>
    rw [collected_concat, Dec.getLsbD_append_acc _ _ hi, ih, toNat_collected_cnt]
    grind

/-- R74, R115: SYNC and the conditions of the bits, from any state. -/
theorem decRun_sync_bits (bs : List Bool) (d : Dec) : (decRun (codeSync :: bs.flatMap bitConds) d).1 = collected bs := by
  induction bs using List.reverseRecOn with
  | nil => rfl
  | append_singleton bs b ih =>
    rw [List.flatMap_append, List.flatMap_singleton, ← List.cons_append, decRun_append, ih,
      decRun_bitConds b (collected_state bs), collected_concat]

/-- R118: PAUSE after the bits. -/
theorem decEvent_pause_collected (bs : List Bool) : decEvent codePause (collected bs) =
    (Dec.clearTo .waitSync, if bs.length = 32 then .frame (permP (collected bs).acc) else .discard) := by
  have hpause := decPause_of_waitBitStart (collected_state bs)
  simp only [collected_cnt_eq_32_iff] at hpause
  exact hpause

/-! ## What a decoder outside `WaitSync` has last received -/

/-- The first condition of a logical bit whose second one the decoder waits for (R74, R116, R117). -/
def DecState.firstHalf (state : DecState) : List Code :=
  match state with
  | .waitSync => []
  | .waitBitStart => []
  | .waitSpace => [codeMark]
  | .waitMark => [codeSpace]

/-- R123: if the decoder is outside `WaitSync`, the conditions `l` end with a SYNC and the bits that it holds, and with the first
condition of a bit if it is inside one. -/
def Heard (l : List Code) (d : Dec) : Prop := d.state ≠ .waitSync → ∃ (before : List Code) (bs : List Bool),
  l = before ++ codeSync :: bs.flatMap bitConds ++ d.state.firstHalf ∧ d = { collected bs with state := d.state }

/-- R116, R117: inside a bit the decoder holds the bits before it, and the second condition appends it to them. -/
theorem append_collected {d : Dec} {bs : List Bool} (hd : d = { collected bs with state := d.state }) (b : Bool) :
    { d.append b with state := .waitBitStart } = { collected (bs ++ [b]) with state := .waitBitStart } := by
  rw [hd, collected_concat]
  rfl

/-- R123: every condition keeps this true. -/
theorem Heard.next {l : List Code} {d : Dec} (h : Heard l d) (c : Code) : Heard (l ++ [c]) (decEvent c d).1 := by
  have hstep := decEvent_step c d
  generalize decEvent c d = r at hstep ⊢
  cases hstep with
  | ignored hs => exact fun hne => absurd hs hne
  | pause | violation => exact fun hne => absurd rfl hne
  | sync => exact fun _ => ⟨l, [], by simp [Dec.clearTo, DecState.firstHalf], rfl⟩
  | firstMark hs | firstSpace hs =>
    intro _
    obtain ⟨before, bs, rfl, hd⟩ := h (by simp [hs])
    refine ⟨before, bs, by simp [hs, DecState.firstHalf], ?_⟩
    rw [hd]
  | one hs =>
    intro _
    obtain ⟨before, bs, rfl, hd⟩ := h (by simp [hs])
    exact ⟨before, bs ++ [true], by simp [hs, DecState.firstHalf, bitConds], append_collected hd true⟩
  | zero hs =>
    intro _
    obtain ⟨before, bs, rfl, hd⟩ := h (by simp [hs])
    exact ⟨before, bs ++ [false], by simp [hs, DecState.firstHalf, bitConds], append_collected hd false⟩

/-- R123: so it is true of every sequence from `WaitSync`. -/
theorem heard_decRun (l : List Code) {d : Dec} (hs : d.state = .waitSync) : Heard l (decRun l d).1 := by
  induction l using List.reverseRecOn with
  | nil => exact fun hne => absurd hs hne
  | append_singleton l c ih => exact decRun_concat l c d ▸ ih.next c

end Sys2Proof.Machine

section
open Sys2Proof Sys2Proof.Machine

/-- Settles O36: SYNC gives the same state from every other. -/
theorem syncResynchronises : Obligations.SyncResynchronises := fun l d =>
  congrArg Prod.fst (decRun_concat l codeSync d)

/-- Settles O37: PAUSE on the decoder that SYNC and the bits leave. -/
theorem frameNeedsExactly32Bits : Obligations.FrameNeedsExactly32Bits := by
  intro bs d
  rw [getLast?_decRun_concat, decRun_concat, decRun_sync_bits, decEvent_pause_collected]
  refine ⟨rfl, fun hlen => ?discard, fun hlen => ⟨(collected bs).acc, fun i hi => getLsbD_collected_acc bs hi, ?frame⟩⟩
  case discard => rw [if_neg hlen]
  case frame => rw [if_pos hlen]

/-- Settles O38: the frame is put out for a PAUSE, and the decoder that it meets has heard a SYNC and the 32 bits. -/
theorem everyFrameHoldsTheBitsBetweenSyncAndPause : Obligations.EveryFrameHoldsTheBitsBetweenSyncAndPause := by
  refine ⟨fun l c d f hs hlast => ?history, fun c d => ⟨fun f hf => ?frame, fun hv => ?violation, decEvent_of_waitSync⟩⟩
  case history =>
    rw [getLast?_decRun_concat] at hlast
    obtain ⟨hpause, hstart, hcnt, rfl⟩ := decEvent_frame (Option.some.inj hlast)
    obtain ⟨before, bs, hl, hd⟩ := heard_decRun l hs (by simp [hstart])
    rw [hd] at hcnt ⊢
    rw [hstart, DecState.firstHalf, List.append_nil] at hl
    refine ⟨hpause, before, bs, hl, collected_cnt_eq_32_iff.mp hcnt, fun i hi => ?_⟩
    rw [permP_permP]
    exact getLsbD_collected_acc bs hi
  case frame =>
    obtain ⟨hpause, hstart, hcnt, -⟩ := decEvent_frame hf
    exact ⟨hpause, hstart, hcnt⟩
  case violation =>
    obtain hclear | ⟨hsync, hclear⟩ := decEvent_violation hv <;> rw [hclear]
    · exact ⟨rfl, rfl, .inl rfl⟩
    · exact ⟨rfl, rfl, .inr hsync⟩

end
end

section
/-! PROOF. The decoder inside a `clk_sys` step (R120, R121, R149): what the consumer, the receive side and the host leave to it,
whatever clocks are tied, and what the transmitter and the synchronisers leave of it. O34, O35. -/

namespace Sys2Proof.Machine

/-! ## The cycles that come before give a next state -/

/-- R108: the consumer's step goes on if what it sees is in the storage. -/
theorem consCycle_next {s : State} (h : s.fc.emptyR = false → s.fc.buf ≠ []) : ∃ t, consCycle s = .next t := by
  unfold consCycle
  cases s.io.frameReady with
  | false => exact ⟨s, rfl⟩
  | true =>
    change ∃ t, s.readFrame = .next t
    obtain ⟨-, hr⟩ | ⟨hseen, hbuf, -⟩ | ⟨-, _, _, -, hr⟩ := readFrame_cases s
    · exact ⟨_, hr⟩
    · exact absurd hbuf (h hseen)
    · exact ⟨_, hr⟩

/-- R83 to R85: the receive side's step always goes on. -/
theorem rxCycle_next (s : State) : ∃ t, rxCycle s = .next t := by
  cases hen : s.rxEnView with
  | false => exact ⟨_, rxCycle_of_disabled hen⟩
  | true =>
    by_cases hlvl : s.sLvl = s.rx.prevLevel
    · exact ⟨_, rxCycle_of_same_level hen hlvl⟩
    · rw [rxCycle_of_edge hen hlvl (decode_edgeWord rfl)]
      split <;> exact ⟨_, rfl⟩

/-- R128: so does the transmitter's. -/
theorem txCycle_next (busy : Bool) (s : State) : ∃ t, txCycle busy s = .next t := by
  simp only [txCycle, exec, execTxSegment]
  repeat' split
  all_goals exact ⟨_, rfl⟩

/-! ## What they leave to the host and the decoder -/

/-- From `s` to `t` the registers, the decoder, the transmitter and the host's access have stayed. -/
structure LeftToSys (s t : State) : Prop where
  regs : t.regs = s.regs := by rfl
  dec : t.dec = s.dec := by rfl
  tx : t.tx = s.tx := by rfl
  busValid : t.io.busValid = s.io.busValid := by rfl
  busWord : t.busWord = s.busWord := by rfl

theorem LeftToSys.trans {s t u : State} (h : LeftToSys s t) (h' : LeftToSys t u) : LeftToSys s u :=
  ⟨h'.regs.trans h.regs, h'.dec.trans h.dec, h'.tx.trans h.tx, h'.busValid.trans h.busValid, h'.busWord.trans h.busWord⟩

theorem consCycle_left {s t : State} (h : consCycle s = .next t) : LeftToSys s t := by
  obtain rfl | ⟨-, f, rest, -, rfl⟩ := consCycle_outcome h <;> exact {}

/-- R104: the write side drives one port, the classifier's condition. -/
theorem writeSide_io (s : State) (c : Option Code) : (s.writeSide c).io = { s.io with emitted := c } := by
  obtain ⟨-, hw⟩ | ⟨-, -, -, -, hw⟩ | ⟨-, -, -, -, hw⟩ | ⟨-, -, -, v, -, hw⟩ | ⟨-, -, -, hw⟩ | ⟨-, -, -, hw⟩ :=
    writeSide_cases s c <;> rw [hw] <;> rfl

theorem rxCycle_left {s t : State} (h : rxCycle s = .next t) : LeftToSys s t := by
  obtain rfl | ⟨o, rfl, -⟩ := rxCycle_outcome h
  · exact {}
  · have hio : (s.applyDet o).io = { s.io with emitted := o.1 } := writeSide_io (s.setRx o.2) o.1
    exact ⟨applyDet_regs s o, applyDet_dec s o, applyDet_tx s o, by rw [hio], by rw [State.busWord, hio]; rfl⟩

/-- R108: a consumer that is not tied to the step takes no frame, and one that is takes at most one. -/
theorem consEdge_next {s : State} (edge : Option ConsEdge) (h : s.fc.emptyR = false → s.fc.buf ≠ []) :
    ∃ (t : State) (popped : List Word), (if edge.isSome then consCycle s else .next s) = .next t ∧ LeftToSys s t ∧
      Ran s t [] [] [] popped ∧ popped.length ≤ 1 ∧ (edge = none → popped = []) := by
  cases edge with
  | none => exact ⟨s, [], rfl, {}, .refl s, by simp, fun _ => rfl⟩
  | some _ =>
    obtain ⟨t, ht⟩ := consCycle_next h
    obtain ⟨popped, hlen, hran⟩ := consCycle_ran ht
    exact ⟨t, popped, ht, consCycle_left ht, hran, hlen, nofun⟩

/-- R104: a receive side that is not tied to the step pushes no condition, and one that is pushes at most one. -/
theorem rxEdge_next (s : State) (edge : Option RxEdge) :
    ∃ (t : State) (pushed : List Code), (if edge.isSome then rxCycle s else .next s) = .next t ∧ LeftToSys s t ∧
      Ran s t pushed [] [] [] ∧ pushed.length ≤ 1 ∧ (edge = none → pushed = []) := by
  cases edge with
  | none => exact ⟨s, [], rfl, {}, .refl s, by simp, fun _ => rfl⟩
  | some _ =>
    obtain ⟨t, ht⟩ := rxCycle_next s
    obtain ⟨pushed, hlen, -, hran⟩ := rxCycle_ran ht
    exact ⟨t, pushed, ht, rxCycle_left ht, hran, hlen, nofun⟩

/-! ## The host's access (R133 to R135) -/

theorem writeCtrl_regs (s : State) (v : Word) : (s.writeCtrl v).regs = { s.regs with rxEn := v.getLsbD 0 } := by
  simp only [State.writeCtrl, State.startTelegram]
  repeat' split
  all_goals rfl

theorem guardedWrite_regs (s : State) (r : Regs) : (s.guardedWrite r).regs = if s.cfgGuard then r else s.regs := by
  unfold State.guardedWrite
  split <;> rfl

/-- R135: the guard is a function of what a tick leaves to the host. -/
theorem LeftToSys.cfgGuard {s t : State} {pushed : List Code} {c d : List Word} (h : LeftToSys s t)
    (hran : Ran s t pushed [] c d) : t.cfgGuard = s.cfgGuard := by
  have hrcnt : t.cc.rcnt = s.cc.rcnt := hran.cond.rcnt
  simp only [State.cfgGuard, State.rxActive, State.activeView, Chan.wview, h.regs, h.tx, hran.views, hran.condSync, hrcnt]

/-- R133 to R135: an access leaves the same registers in two states with the same registers and the same guard. -/
theorem exec_decodeBus_regs (code : BitVec 7) (v : Word) {s t : State} (hregs : t.regs = s.regs)
    (hguard : t.cfgGuard = s.cfgGuard) : ∃ s' t', exec (decodeBus code v) s = .next s' ∧
      exec (decodeBus code v) t = .next t' ∧ t'.regs = s'.regs := by
  unfold decodeBus
  split
  case isFalse => exact ⟨_, _, exec_decodeRead _ s, exec_decodeRead _ t, hregs⟩
  case isTrue =>
    unfold decodeWrite
    generalize (BitVec.setWidth 6 code >>> 2).toNat = slot
    match slot with
    | 1 =>
      refine ⟨_, _, exec_ctrlWrite _ v s, exec_ctrlWrite _ v t, ?_⟩
      rw [writeCtrl_regs, writeCtrl_regs, hregs]
    | 5 | 6 | 7 =>
      refine ⟨_, _, rfl, rfl, ?_⟩
      rw [guardedWrite_regs, guardedWrite_regs, hguard, hregs]
    | 3 | 4 | 8 | 10 =>
      refine ⟨_, _, rfl, rfl, ?_⟩
      rw [setRegs_regs, setRegs_regs, hregs]
    | 0 | 2 | 9 | 11 | _ + 12 => exact ⟨_, _, rfl, rfl, hregs⟩

/-- The access that an edge of `clk_sys` brings stands on the bus, whatever edges are tied to it. -/
theorem busValid_latch (s : State) {k : Tick} {e : SysEdge} (hk : k.sys = some e) :
    (s.latch k).io.busValid = e.bus.isSome := by
  obtain ⟨rx, _, _ | _⟩ := k <;> cases hk <;> cases hb : e.bus <;>
    simp [State.latch, Ports.latchSys, Ports.latchCons, hb]

theorem busWord_latch (s : State) {k : Tick} {e : SysEdge} {a : BusAccess} (hk : k.sys = some e) (hb : e.bus = some a) :
    (s.latch k).busWord = .bus (BitVec.ofBool a.we ++ a.off) a.wdata := by
  obtain ⟨rx, _, _ | _⟩ := k <;> cases hk <;>
    simp [State.busWord, State.latch, Ports.latchSys, Ports.latchCons, hb]

/-- `r` holds the registers that the access of a step with the clock edges `k` leaves, if it has one. -/
def HostLeaves (s : State) (k : Tick) (bus : Option BusAccess) (r : Regs) : Prop :=
  match bus with
  | none => r = s.regs
  | some a => ∃ h, exec (decodeBus (BitVec.ofBool a.we ++ a.off) a.wdata) (s.latch k) = .next h ∧ r = h.regs

/-- R16, R133 to R135: in the state `t` that the tied clocks leave, the host's access gives a next state, with the registers
that it leaves at the start of the step. -/
theorem hostCycle_leaves {s t : State} {k : Tick} {e : SysEdge} (hk : k.sys = some e) (hleft : LeftToSys (s.latch k) t)
    (hguard : t.cfgGuard = s.cfgGuard) : ∃ u, hostCycle t = .next u ∧ HostLeaves s k e.bus u.regs := by
  rw [hostCycle, hleft.busValid, hleft.busWord, busValid_latch s hk]
  cases hb : e.bus with
  | none => exact ⟨t, rfl, hleft.regs⟩
  | some a =>
    obtain ⟨s', t', hs, ht, hregs⟩ := exec_decodeBus_regs (BitVec.ofBool a.we ++ a.off) a.wdata (s := s.latch k)
      hleft.regs hguard
    rw [busWord_latch s hk hb]
    exact ⟨t', ht, s', hs, hregs⟩

/-! ## The decoder's part of a step -/

/-- In the step of `s` with the clock edges `k` the decoder meets the state `t`: a tied receive side has pushed `pushed` and a
tied consumer has popped `popped`, and the host's access has been made. -/
structure Met (s t : State) (k : Tick) (e : SysEdge) (pushed : List Code) (popped : List Word) : Prop where
  dec : t.dec = s.dec
  cond : s.cc.Moved t.cc pushed []
  frame : s.fc.Moved t.fc [] popped
  pushed_le : pushed.length ≤ 1
  popped_le : popped.length ≤ 1
  pushed_tied : k.rx = none → pushed = []
  popped_tied : k.cons = none → popped = []
  host : HostLeaves s k e.bus t.regs

/-- From the state `s` that the decoder leaves to the end `t` of the step: the transmitter sets TX_DONE at most, and the
synchronisers move no entry. -/
structure Finished (s t : State) : Prop where
  dec : t.dec = s.dec
  cond : s.cc.Moved t.cc [] []
  frame : s.fc.Moved t.fc [] []
  regs : t.regs = { s.regs with txDone := t.regs.txDone }

/-- R100, R104, R108, R133: the operations of a tick up to the decoder's. -/
theorem tickOps_met {s : State} {k : Tick} {e : SysEdge} (rest : List Move) (hk : k.sys = some e)
    (h : s.fc.emptyR = false → s.fc.buf ≠ []) :
    ∃ (t : State) (pushed : List Code) (popped : List Word), Met s t k e pushed popped ∧
      tickOps ((s.setMoves rest).latch k) k = andThen (decoderCycle s.decAction t) (txCycle s.tx.busy) := by
  obtain ⟨a, popped, ha, hleft, hran, hpopped, hcons⟩ := consEdge_next (s := (s.setMoves rest).latch k) k.cons h
  obtain ⟨b, pushed, hb, hleft', hran', hpushed, hrx⟩ := rxEdge_next a k.rx
  have hsys : LeftToSys (s.latch k) b := { hleft.trans hleft' with }
  have hmoved : Ran ((s.setMoves rest).latch k) b pushed [] [] popped := by simpa using hran.trans hran'
  have hguard : b.cfgGuard = s.cfgGuard := (hleft.trans hleft').cfgGuard hmoved
  obtain ⟨t, ht, hhost⟩ := hostCycle_leaves hk hsys hguard
  have hdec : t.dec = b.dec := by
    obtain ⟨r, x, p, rfl, -⟩ := hostCycle_effect ht
    rfl
  obtain ⟨hcc, hfc, -⟩ := hostCycle_channels ht
  have hops : tickOps ((s.setMoves rest).latch k) k = sysCycle ((s.setMoves rest).latch k) b := by
    rw [tickOps, ha, andThen_next, hb, andThen_next, hk]
    rfl
  refine ⟨t, pushed, popped, ⟨hdec.trans hsys.dec, hcc ▸ hmoved.cond, hfc ▸ hmoved.frame, hpushed, hpopped, hrx, hcons,
    hhost⟩, ?_⟩
  rw [hops, sysCycle, ht]
  rfl

/-- R128, R149: the operations of a tick after the decoder's, and the synchronisers. -/
theorem finished_of_txCycle {s u : State} {busy : Bool} (h : txCycle busy s = .next u) (s0 : State) (k : Tick)
    (rx sys cons : Bool) : Finished s (s0.settle (s0.shiftAll u k) rx sys cons) := by
  obtain ⟨hcc, hfc⟩ := txCycle_channels h
  obtain ⟨hcond, hframe⟩ := shiftAll_moved s0 u k
  have htx : u.dec = s.dec ∧ u.regs = { s.regs with txDone := u.regs.txDone } := by
    obtain rfl | ⟨t0, rfl | ⟨-, -, rfl⟩⟩ := txCycle_outcome h <;> exact ⟨rfl, rfl⟩
  obtain ⟨hdec, hregs⟩ := htx
  exact ⟨by simpa using hdec, hcc ▸ hcond, hfc ▸ hframe, by simpa using hregs⟩

/-- R149: a step with an edge of `clk_sys`, around its decoder. -/
theorem step_met {s : State} {k : Tick} {e : SysEdge} {rest : List Move} (hm : s.moves = .clock k :: rest)
    (hr : s.io.rst = false) (hk : k.sys = some e) (h : s.fc.wsync.getLastD 0 ≠ s.fc.rcnt → s.fc.buf ≠ []) :
    ∃ (t : State) (pushed : List Code) (popped : List Word), Met s t k e pushed popped ∧
      ∀ u, decoderCycle s.decAction t = .next u → ∃ v, step s = .next v ∧ Finished u v := by
  have hseen : s.fc.emptyR = false → s.fc.buf ≠ [] := fun hempty => h (beq_eq_false_iff_ne.mp hempty)
  obtain ⟨t, pushed, popped, hmet, hops⟩ := tickOps_met rest hk hseen
  refine ⟨t, pushed, popped, hmet, fun u hu => ?_⟩
  obtain ⟨v, hv⟩ := txCycle_next s.tx.busy u
  refine ⟨_, ?_, finished_of_txCycle hv ((s.setMoves rest).latch k) k k.rx.isSome k.sys.isSome k.cons.isSome⟩
  rw [step_clock hm hr, clockStep, hops, hu, andThen_next, hv]
  rfl

/-- What a step moves through the channels if its decoder pops `out` and pushes no frame. -/
theorem Met.moved {s t u v : State} {k : Tick} {e : SysEdge} {pushed out : List Code} {popped : List Word}
    (h : Met s t k e pushed popped) (hcc : t.cc.Moved u.cc [] out) (hfc : u.fc = t.fc) (hfin : Finished u v) :
    s.cc.Moved v.cc pushed out ∧ s.fc.Moved v.fc [] popped := by
  have hcond := (h.cond.trans hcc).trans hfin.cond
  have hframe := h.frame.trans (hfc ▸ hfin.frame)
  exact ⟨by simpa using hcond, by simpa using hframe⟩

/-! ## What the decoder does in it -/

/-- R120: an enabled decoder stalls on a PAUSE that would emit into a full frame channel. -/
theorem decAction_eq_stall {s : State} {c : Code} {more : List Code} (hen : s.regs.rxEn = true)
    (hv : s.cc.wsync.getLastD 0 ≠ s.cc.rcnt) (hbuf : s.cc.buf = c :: more) (hemit : s.wouldEmit c = true)
    (hfull : s.fcFull = true) : s.decAction = .stall := by
  have hvisible : s.cc.emptyR = false := beq_eq_false_iff_ne.mpr hv
  simp [State.decAction, hvisible, hbuf, hen, hemit, hfull]

/-- R121: a disabled decoder drops what it sees. -/
theorem decAction_eq_drain {s : State} {c : Code} {more : List Code} (hoff : s.regs.rxEn = false)
    (hv : s.cc.wsync.getLastD 0 ≠ s.cc.rcnt) (hbuf : s.cc.buf = c :: more) : s.decAction = .drain c := by
  have hvisible : s.cc.emptyR = false := beq_eq_false_iff_ne.mpr hv
  simp [State.decAction, hvisible, hbuf, hoff]

theorem decAction_eq_hold {s : State} (hoff : s.regs.rxEn = false) (hv : s.cc.wsync.getLastD 0 = s.cc.rcnt) :
    s.decAction = .hold := by
  have hempty : s.cc.emptyR = true := Chan.emptyR_iff.mpr hv
  simp [State.decAction, hempty, hoff]

/-- R121: the dropped word is popped, and reported if it is a marker. -/
theorem decoderCycle_drain {s : State} {c : Code} {more : List Code} (hbuf : s.cc.buf = c :: more) :
    decoderCycle (.drain c) s = .next (((s.setCc { s.cc with buf := more, rcnt := s.cc.rcnt + 1 }).setIo
      { s.io with condPopped := some c }).reportDrained c).decHold := by
  simp only [decoderCycle, popCond_eq_some.mpr ⟨more, hbuf, rfl⟩]

theorem reportDrained_regs (s : State) (c : Code) :
    (s.reportDrained c).regs = { s.regs with condOvf := s.regs.condOvf || c == codeOverflow } := by
  unfold State.reportDrained
  split
  case isTrue hc => simp [State.raiseCondOvf, hc]
  case isFalse hc =>
    have hnot : (c == codeOverflow) = false := beq_false_of_ne hc
    rw [hnot, Bool.or_false]

end Sys2Proof.Machine

section
open Sys2Proof Sys2Proof.Machine

/-- Settles O34: the decoder stalls, so the step leaves what the tied clocks and the host have left. -/
theorem decoderStallsOnFullFrameChannel : Obligations.DecoderStallsOnFullFrameChannel := by
  intro s k e rest more hm hr hk hen hv hbuf hstate hcnt hfull hfc host
  obtain ⟨a, pushed, popped, hmet, hstep⟩ := step_met hm hr hk hfc
  have hact : s.decAction = .stall :=
    decAction_eq_stall hen hv hbuf (wouldEmit_pause_iff.mpr ⟨hstate, hcnt⟩) (fcFull_iff.mpr hfull)
  obtain ⟨t, ht, hfin⟩ := hstep a (by rw [hact]; rfl)
  obtain ⟨hcond, hframe⟩ := hmet.moved (.refl _) rfl hfin
  exact ⟨t, a.regs, pushed, popped, ht, hfin.dec.trans hmet.dec, hcond.entries.symm, hmet.pushed_le, hmet.pushed_tied,
    hcond.rcnt, by simpa using hframe.entries, hmet.popped_le, hmet.popped_tied, hframe.wcnt, hmet.host, hfin.regs⟩

/-- Settles O35: the decoder holds or drains, and waits for a SYNC in both cases. -/
theorem disabledDecoderDrains : Obligations.DisabledDecoderDrains := by
  intro s k e rest hm hr hk hoff hcc hfc host
  obtain ⟨a, pushed, popped, hmet, hstep⟩ := step_met hm hr hk hfc
  by_cases hv : s.cc.wsync.getLastD 0 = s.cc.rcnt
  case pos =>
    obtain ⟨t, ht, hfin⟩ := hstep a.decHold (by rw [decAction_eq_hold hoff hv]; rfl)
    obtain ⟨hcond, hframe⟩ := hmet.moved (u := a.decHold) (.refl _) rfl hfin
    exact ⟨t, a.regs, pushed, popped, ht, hfin.dec, hmet.pushed_le, hmet.pushed_tied, by simpa using hframe.entries,
      hmet.popped_le, hmet.popped_tied, hframe.wcnt, hmet.host, (if_pos hv).mpr ⟨hcond.entries.symm, hcond.rcnt, hfin.regs⟩⟩
  case neg =>
    obtain ⟨c, more, hbuf⟩ := List.exists_cons_of_ne_nil (hcc hv)
    have hhead : a.cc.buf = c :: (more ++ pushed) := by simpa [hbuf, eq_comm] using hmet.cond.entries
    obtain ⟨t, ht, hfin⟩ := hstep _ (by rw [decAction_eq_drain hoff hv hbuf]; exact decoderCycle_drain hhead)
    obtain ⟨hcond, hframe⟩ := hmet.moved (by simpa using Chan.moved_pop hhead) (by simp) hfin
    have hentries : t.cc.buf = s.cc.buf.tail ++ pushed := by simpa [hbuf, eq_comm] using hcond.entries
    have hregs := hfin.regs
    rw [decHold_regs, reportDrained_regs] at hregs
    refine ⟨t, a.regs, pushed, popped, ht, hfin.dec, hmet.pushed_le, hmet.pushed_tied, by simpa using hframe.entries,
      hmet.popped_le, hmet.popped_tied, hframe.wcnt, hmet.host, (if_neg hv).mpr ⟨hentries, hcond.rcnt, ?_⟩⟩
    rw [hregs, hbuf]
    rfl

end
end

section
/-! PROOF. The transmitter's operations (R127, R128, R137): a write of CTRL, TX_SEGMENT in its three cases, and what every other
operation leaves of a telegram. O8. -/

namespace Sys2Proof.Machine

/-! ## TX_START (R127) -/

/-- The transmitter right after a start at `now` with TX_DATA = `data`. -/
def Tx.begun (now : Stamp) (data : Word) : Tx := { busy := true, out := true, seg := 0, t0 := now, word := permP data }

theorem startTelegram_tx (s : State) :
    s.startTelegram.tx = if s.tx.busy then s.tx else Tx.begun s.io.sysNow s.regs.txData := by
  unfold State.startTelegram
  split <;> rfl

/-- R127, R137: a write of CTRL starts a telegram if its bit 1 is set and none is being sent. -/
theorem writeCtrl_tx (s : State) (v : Word) : (s.writeCtrl v).tx =
    if v.getLsbD 1 = true ∧ s.tx.busy = false then Tx.begun s.io.sysNow s.regs.txData else s.tx := by
  simp only [State.writeCtrl]
  split
  case isTrue hstart =>
    rw [startTelegram_tx]
    change (if s.tx.busy then s.tx else Tx.begun s.io.sysNow s.regs.txData) = _
    cases s.tx.busy <;> simp [hstart]
  case isFalse hstart =>
    rw [if_neg fun h => hstart h.1]
    rfl

/-- R137: the ports see no more of it than `bus_rdata` = 0. -/
theorem writeCtrl_io (s : State) (v : Word) : (s.writeCtrl v).io = { s.io with busRdata := 0 } := by
  simp only [State.writeCtrl, State.startTelegram]
  repeat' split
  all_goals rfl

/-- R138: bits 1 and 2 of STATUS are TX_BUSY and TX_LEVEL. -/
theorem status_tx_bits (s : State) : (s.regval 2).getLsbD 1 = s.tx.busy ∧ (s.regval 2).getLsbD 2 = s.tx.out := by
  change s.statusWord.getLsbD 1 = s.tx.busy ∧ s.statusWord.getLsbD 2 = s.tx.out
  rw [State.statusWord, BitVec.getLsbD_append, if_neg (by decide), BitVec.getLsbD_append, if_pos (by decide),
    BitVec.getLsbD_append, if_neg (by decide), BitVec.getLsbD_append, if_neg (by decide), BitVec.getLsbD_append,
    if_pos (by decide)]
  cases s.tx.busy <;> cases s.tx.out <;> exact ⟨rfl, rfl⟩

/-! ## TX_SEGMENT (R128) -/

/-- R128: the transmitter after a boundary that is due, for a current segment of `dur` microseconds. -/
def Tx.cross (x : Tx) (dur : Nat) : Tx :=
  if 131 ≤ x.seg.toNat then { x with busy := false, out := false, seg := 0, t0 := x.t0 + BitVec.ofNat 64 dur }
  else { x with seg := x.seg + 1, t0 := x.t0 + BitVec.ofNat 64 dur, out := segLevel (x.seg.toNat + 1) }

theorem Tx.cross_of_last {x : Tx} (h : 131 ≤ x.seg.toNat) (dur : Nat) :
    x.cross dur = { x with busy := false, out := false, seg := 0, t0 := x.t0 + BitVec.ofNat 64 dur } := if_pos h

theorem Tx.cross_of_lt {x : Tx} (h : x.seg.toNat < 131) (dur : Nat) : x.cross dur =
    { x with seg := x.seg + 1, t0 := x.t0 + BitVec.ofNat 64 dur, out := segLevel (x.seg.toNat + 1) } :=
  if_neg (not_le.mpr h)

theorem Tx.cross_word (x : Tx) (dur : Nat) : (x.cross dur).word = x.word := by
  unfold Tx.cross
  split <;> rfl

/-- R128: the transmitter after a step at `now` that it starts sending, for the unit `T`. -/
def Tx.advance (x : Tx) (T : Nat) (now : Stamp) : Tx :=
  if segMul x.word x.seg.toNat * T ≤ (now - x.t0).toNat then x.cross (segMul x.word x.seg.toNat * T) else x

/-- R128: what TX_SEGMENT does, in the three cases of the rule. -/
theorem exec_txSegment (s : State) : exec .txSegment s =
    if s.tx.busy = true ∧ s.segDuration ≤ (s.io.sysNow - s.tx.t0).toNat then
      if 131 ≤ s.tx.seg.toNat then .next (s.setTx (s.tx.cross s.segDuration)).raiseTxDone
      else .next (s.setTx (s.tx.cross s.segDuration))
    else .next s := by
  have hdue : s.segDue = true ↔ s.segDuration ≤ (s.io.sysNow - s.tx.t0).toNat := decide_eq_true_iff
  simp only [exec, execTxSegment, Bool.and_eq_true, hdue]
  split
  · split
    next hlast => rw [Tx.cross_of_last hlast]; rfl
    next hlast => rw [Tx.cross_of_lt (not_le.mp hlast)]; rfl
  · rfl

/-- R128: in a step that starts with a telegram being sent the transmitter advances; TX_DONE is set when the telegram ends, and
`T_US` and the enable stay. -/
theorem txCycle_of_busy {s t : State} (hbusy : s.tx.busy = true) (h : txCycle true s = .next t) :
    t.tx = s.tx.advance s.regs.tUs.toNat s.io.sysNow ∧ t.regs.tUs = s.regs.tUs ∧ t.regs.rxEn = s.regs.rxEn ∧
      (t.tx.busy = false → t.regs.txDone = true) := by
  have hexec := (exec_txSegment s).symm.trans h
  by_cases hdue : s.segDuration ≤ (s.io.sysNow - s.tx.t0).toNat
  case pos =>
    have hcross : s.tx.advance s.regs.tUs.toNat s.io.sysNow = s.tx.cross s.segDuration := if_pos hdue
    rw [if_pos ⟨hbusy, hdue⟩] at hexec
    rw [hcross]
    split at hexec <;> cases hexec
    next => exact ⟨rfl, rfl, rfl, fun _ => rfl⟩
    next hlast =>
      have hstays : (s.tx.cross s.segDuration).busy = true := by rw [Tx.cross_of_lt (not_le.mp hlast), hbusy]
      exact ⟨rfl, rfl, rfl, fun hidle => absurd (hstays.symm.trans hidle) (by decide)⟩
  case neg =>
    rw [if_neg fun h => hdue h.2] at hexec
    cases hexec
    exact ⟨(if_neg hdue).symm, rfl, rfl, fun hidle => absurd (hbusy.symm.trans hidle) (by decide)⟩

/-! ## Every other operation -/

/-- R127: while a telegram is being sent, no operation but TX_SEGMENT touches the transmitter. -/
theorem exec_tx_of_busy {i : Instr} {s t : State} (hi : i ≠ .txSegment) (hbusy : s.tx.busy = true)
    (h : exec i s = .next t) : t.tx = s.tx := by
  have hctrl (v : Word) : (s.writeCtrl v).tx = s.tx := by simp [writeCtrl_tx, hbusy]
  cases i with
  | wrCtrl x v | txStart x v =>
    cases h
    exact hctrl v
  | txSegment => exact absurd rfl hi
  | condPause =>
    simp only [exec, execCondPause] at h
    split at h <;> cases h <;> simp
  | chPush e =>
    cases e <;> simp only [exec, execChPush] at h <;> split at h <;> cases h <;> rfl
  | chPop ch =>
    cases ch with
    | cc =>
      have hread : s.readCond = .next t := h
      obtain ⟨-, hc⟩ | ⟨-, -, hc⟩ | ⟨-, c, r, -, hc⟩ := readCond_cases s <;> rw [hc] at hread <;> cases hread <;> rfl
    | fc =>
      have hread : s.readFrame = .next t := h
      obtain ⟨-, hf⟩ | ⟨-, -, hf⟩ | ⟨-, f, r, -, hf⟩ := readFrame_cases s <;> rw [hf] at hread <;> cases hread <;> rfl
  | framePop =>
    have hread : s.readFrame = .next t := h
    obtain ⟨-, hf⟩ | ⟨-, -, hf⟩ | ⟨-, f, r, -, hf⟩ := readFrame_cases s <;> rw [hf] at hread <;> cases hread <;> rfl
  | _ => cases h; simp

end Sys2Proof.Machine

section
open Sys2Proof Sys2Proof.Machine

/-- Settles O8: TX_START is a write of CTRL, and no other operation than TX_SEGMENT touches a telegram. -/
theorem startBeginsATelegram : Obligations.StartBeginsATelegram := by
  refine ⟨fun s x v hstart => ⟨?decode, s.writeCtrl v, rfl, writeCtrl_regs s v, fun hbusy => ?refused, fun hidle => ?begun⟩,
    fun i s t hi hbusy h => exec_tx_of_busy hi hbusy h⟩
  case decode => simp [decode, decodeBus, decodeWrite, hstart]
  case refused => simp [writeCtrl_tx, hbusy]
  case begun =>
    have htx : (s.writeCtrl v).tx = Tx.begun s.io.sysNow s.regs.txData := by simp [writeCtrl_tx, hstart, hidle]
    obtain ⟨hbit1, hbit2⟩ := status_tx_bits (s.writeCtrl v)
    rw [hbit1, hbit2, htx]
    exact ⟨rfl, rfl, rfl, rfl, rfl, rfl, rfl⟩

end
end

section
/-! PROOF. The transmitter in a step (R127 to R129, R149): its next value is a function of its own value, the registers and the
edge of `clk_sys`, whatever the rest of the block holds. O39, O41. -/

namespace Sys2Proof.Machine

/-! ## The host's access (R137) -/

/-- The data that an access writes to CTRL, if it does. -/
def ctrlWrite (bus : Option BusAccess) : Option Word :=
  bus.bind fun a => if a.we = true ∧ a.off.extractLsb' 2 4 = 1 then some a.wdata else none

/-- `CTRL.RX_EN` after an access. -/
def enableAfter (bus : Option BusAccess) (old : Bool) : Bool := (ctrlWrite bus).elim old (·.getLsbD 0)

/-- The access asks for a telegram to be started. -/
def starts (bus : Option BusAccess) : Bool := (ctrlWrite bus).any (·.getLsbD 1)

theorem starts_iff {bus : Option BusAccess} : starts bus = true ↔
    ∃ a, bus = some a ∧ a.we = true ∧ a.off.extractLsb' 2 4 = 1 ∧ a.wdata.getLsbD 1 = true := by
  cases bus with
  | none => simp [starts, ctrlWrite]
  | some a =>
    by_cases hctrl : a.we = true ∧ a.off.extractLsb' 2 4 = 1
    · simp [starts, ctrlWrite, hctrl]
    · simp only [starts, ctrlWrite, Option.bind_some, if_neg hctrl, Option.any_none, Option.some.injEq, exists_eq_left',
        Bool.false_eq_true, false_iff]
      exact fun ⟨hwe, hslot, _⟩ => hctrl ⟨hwe, hslot⟩

theorem ctrlWrite_of_read {a : BusAccess} (h : a.we = false) : ctrlWrite (some a) = none := by simp [ctrlWrite, h]

/-- R46, R49: CTRL is slot 1. -/
theorem slot_eq_one_iff {off : BitVec 6} : off.extractLsb' 2 4 = 1 ↔ (off >>> 2).toNat = 1 := by
  rw [← BitVec.toNat_inj, ← toNat_slot, BitVec.setWidth_ushiftRight_eq_extractLsb]
  rfl

/-- What the access `bus` has made, from `s` to `t`, of the enable, the transmitter and what the transmitter reads (R127, R135,
R137). -/
structure Accessed (s t : State) (bus : Option BusAccess) : Prop where
  tx : t.tx = if starts bus = true ∧ s.tx.busy = false then Tx.begun s.io.sysNow s.regs.txData else s.tx
  enable : t.regs.rxEn = enableAfter bus s.regs.rxEn
  unit : s.tx.busy = true ∨ starts bus = true → t.regs.tUs = s.regs.tUs
  now : t.io.sysNow = s.io.sysNow

theorem accessed_ctrl (s : State) {bus : Option BusAccess} {v : Word} (h : ctrlWrite bus = some v) :
    Accessed s (s.writeCtrl v) bus where
  tx := by simp only [writeCtrl_tx, starts, h, Option.any_some]
  enable := by simp only [writeCtrl_regs, enableAfter, h, Option.elim_some]
  unit := fun _ => by rw [writeCtrl_regs]
  now := by rw [writeCtrl_io]

section
variable {bus : Option BusAccess} (h : ctrlWrite bus = none)
include h

theorem accessed_other {s t : State} (htx : t.tx = s.tx) (hen : t.regs.rxEn = s.regs.rxEn)
    (hunit : s.tx.busy = true → t.regs.tUs = s.regs.tUs) (hnow : t.io.sysNow = s.io.sysNow) : Accessed s t bus where
  tx := by simp [htx, starts, h]
  enable := by simp [hen, enableAfter, h]
  unit := by simpa [starts, h] using hunit
  now := hnow

/-- R135: while a telegram is being sent the guard refuses a change of `T_US`. -/
theorem accessed_guarded (s : State) {r : Regs} (hr : r.rxEn = s.regs.rxEn) : Accessed s (s.guardedWrite r) bus := by
  refine accessed_other h (guardedWrite_tx s r) ?enable (fun hbusy => ?unit) ?now
  case enable =>
    rw [guardedWrite_regs]
    split
    exacts [hr, rfl]
  case unit =>
    have hguard : ¬s.cfgGuard = true := by simp [State.cfgGuard, hbusy]
    rw [guardedWrite_regs, if_neg hguard]
  case now =>
    unfold State.guardedWrite
    split <;> rfl

end

/-- R77: an access code is taken apart into `we` and the offset. -/
theorem decodeBus_append (we : Bool) (off : BitVec 6) (v : Word) :
    decodeBus (BitVec.ofBool we ++ off) v = if we then decodeWrite off v else decodeRead off := by
  have hwe : (BitVec.ofBool we ++ off).getLsbD 6 = we := by
    rw [BitVec.getLsbD_append, if_neg (by decide)]
    cases we <;> rfl
  have hoff : (BitVec.ofBool we ++ off).setWidth 6 = off := by
    simpa using BitVec.setWidth_append_eq_right
  rw [decodeBus, hwe, hoff]

/-- R133, R134, R137: of all accesses only a write of CTRL reaches the enable or the transmitter. -/
theorem exec_decodeBus_accessed {a : BusAccess} {s t : State}
    (h : exec (decodeBus (BitVec.ofBool a.we ++ a.off) a.wdata) s = .next t) : Accessed s t (some a) := by
  rw [decodeBus_append] at h
  cases hwe : a.we with
  | false =>
    rw [hwe, if_neg (by decide), exec_decodeRead] at h
    cases h
    exact accessed_other (ctrlWrite_of_read hwe) rfl rfl (fun _ => rfl) rfl
  | true =>
    rw [hwe, if_pos rfl] at h
    have hctrl : ctrlWrite (some a) = if (a.off >>> 2).toNat = 1 then some a.wdata else none := by
      simp only [ctrlWrite, Option.bind_some, hwe, true_and, slot_eq_one_iff]
    unfold decodeWrite at h
    generalize (a.off >>> 2).toNat = slot at h hctrl
    match slot with
    | 1 =>
      cases (exec_ctrlWrite _ _ s).symm.trans h
      exact accessed_ctrl s hctrl
    | 5 | 6 | 7 =>
      cases h
      exact accessed_guarded hctrl s rfl
    | 0 | 2 | 3 | 4 | 8 | 9 | 10 | 11 | _ + 12 =>
      cases h
      exact accessed_other hctrl rfl rfl (fun _ => rfl) rfl

/-- R133, R134: the host's access in a step with an edge of `clk_sys`, after the cycles of the tied clocks. -/
theorem hostCycle_accessed {s t u : State} {k : Tick} {e : SysEdge} (hk : k.sys = some e) (hleft : LeftToSys (s.latch k) t)
    (h : hostCycle t = .next u) : Accessed t u e.bus := by
  rw [hostCycle, hleft.busValid, hleft.busWord, busValid_latch s hk] at h
  cases hb : e.bus with
  | none =>
    rw [hb] at h
    cases h
    exact accessed_other rfl rfl rfl (fun _ => rfl) rfl
  | some a =>
    rw [busWord_latch s hk hb, hb] at h
    exact exec_decodeBus_accessed h

/-! ## The cycles before and after it -/

/-- The edge of `clk_sys` brings its timestamp, whatever edges are tied to it. -/
theorem sysNow_latch (s : State) {k : Tick} {e : SysEdge} (hk : k.sys = some e) : (s.latch k).io.sysNow = e.now := by
  obtain ⟨rx, _, _ | _⟩ := k <;> cases hk <;> cases hb : e.bus <;>
    simp [State.latch, Ports.latchSys, Ports.latchCons, hb]

theorem consCycle_sysNow {s t : State} (h : consCycle s = .next t) : t.io.sysNow = s.io.sysNow := by
  obtain rfl | ⟨-, f, rest, -, rfl⟩ := consCycle_outcome h <;> rfl

theorem rxCycle_sysNow {s t : State} (h : rxCycle s = .next t) : t.io.sysNow = s.io.sysNow := by
  obtain rfl | ⟨o, rfl, -⟩ := rxCycle_outcome h
  · rfl
  · have hio : (s.applyDet o).io = { s.io with emitted := o.1 } := writeSide_io (s.setRx o.2) o.1
    rw [hio]

/-- R113, R118: the decoder's report counts, or sets a bit of IRQ_STATUS. -/
theorem applyDec_regs (s : State) (r : Dec × DecOut) :
    (s.applyDec r).regs.rxEn = s.regs.rxEn ∧ (s.applyDec r).regs.tUs = s.regs.tUs := by
  obtain ⟨d, _ | _ | _ | _⟩ := r <;> exact ⟨rfl, rfl⟩

/-- R121: the decoder's step leaves the transmitter, what the transmitter reads, and the enable. -/
theorem decoderCycle_leaves_tx {s0 s t : State} (h : decoderCycle s0.decAction s = .next t) :
    t.tx = s.tx ∧ t.io.sysNow = s.io.sysNow ∧ t.regs.rxEn = s.regs.rxEn ∧ t.regs.tUs = s.regs.tUs := by
  obtain rfl | rfl | ⟨-, c, v, u, hpop, hdone⟩ := decoderCycle_outcome h
  · exact ⟨rfl, rfl, rfl, rfl⟩
  · exact ⟨rfl, rfl, rfl, rfl⟩
  · obtain ⟨rest, -, rfl⟩ := popCond_eq_some.mp hpop
    obtain rfl | hconsume := hdone
    · simp [reportDrained_regs]
    · rw [runWord_cond] at hconsume
      split at hconsume <;> cases hconsume
      · exact ⟨rfl, rfl, rfl, rfl⟩
      · simp [applyDec_regs, reportDrained_regs]

/-! ## The transmitter's next value -/

/-- R127, R128: the transmitter after a step with the edge `e` of `clk_sys`, from the registers at the step's start. -/
def Tx.next (x : Tx) (g : Regs) (e : SysEdge) : Tx :=
  if x.busy then x.advance g.tUs.toNat e.now
  else if starts e.bus then Tx.begun e.now g.txData else x

/-- What a step, but for an assertion of `rst`, does to the transmitter and to the registers that it depends on, when it brings
the edge `sys` of `clk_sys` or none. -/
structure Transmitted (s t : State) (sys : Option SysEdge) : Prop where
  tx : t.tx = sys.elim s.tx (s.tx.next s.regs)
  enable : t.regs.rxEn = enableAfter (sys.bind SysEdge.bus) s.regs.rxEn
  unit : s.tx.busy = true ∨ starts (sys.bind SysEdge.bus) = true → t.regs.tUs = s.regs.tUs
  done : s.tx.busy = true → t.tx.busy = false → t.regs.txDone = true

theorem transmitted_of_kept {s t : State} (htx : t.tx = s.tx) (hregs : t.regs = s.regs) : Transmitted s t none where
  tx := htx
  enable := by rw [hregs]; rfl
  unit := fun _ => by rw [hregs]
  done := fun hbusy hidle => absurd (hbusy.symm.trans ((congrArg Tx.busy htx).symm.trans hidle)) (by decide)

/-- R131: it speaks of nothing but the transmitter and the registers, at the start and at the end of the step. -/
theorem Transmitted.of_eq {s s' t t' : State} {sys : Option SysEdge} (h : Transmitted s' t' sys) (htx : s'.tx = s.tx)
    (hregs : s'.regs = s.regs) (htx' : t.tx = t'.tx) (hregs' : t.regs = t'.regs) : Transmitted s t sys := by
  obtain ⟨h1, h2, h3, h4⟩ := h
  rw [htx] at h1 h3 h4
  rw [hregs] at h1 h2 h3
  rw [← htx'] at h1 h4
  rw [← hregs'] at h2 h3 h4
  exact ⟨h1, h2, h3, h4⟩

/-- R149: the host's access, the decoder, then the transmitter, which was sending at the start of the step or does nothing. -/
theorem sysCycle_transmitted {s0 s t : State} {e : SysEdge} (hbusy : s0.tx.busy = s.tx.busy) (hnow : s.io.sysNow = e.now)
    (hhost : ∀ u, hostCycle s = .next u → Accessed s u e.bus) (h : sysCycle s0 s = .next t) : Transmitted s t (some e) := by
  obtain ⟨a, b, ha, hb, ht⟩ := sysCycle_eq_next.mp h
  obtain ⟨hatx, haen, haunit, hanow⟩ := hhost a ha
  obtain ⟨hbtx, hbnow, hben, hbunit⟩ := decoderCycle_leaves_tx hb
  have hlate : b.io.sysNow = e.now := hbnow.trans (hanow.trans hnow)
  rw [hbusy] at ht
  cases hs : s.tx.busy with
  | true =>
    rw [hs] at ht
    have hunit : b.regs.tUs = s.regs.tUs := hbunit.trans (haunit (.inl hs))
    have htx : b.tx = s.tx := hbtx.trans (hatx.trans (if_neg (by simp [hs])))
    obtain ⟨htx', hunit', hen', hdone⟩ := txCycle_of_busy ((congrArg Tx.busy htx).trans hs) ht
    rw [htx, hunit, hlate] at htx'
    exact ⟨by simp [htx', Tx.next, hs], hen'.trans (hben.trans haen), fun _ => hunit'.trans hunit, fun _ => hdone⟩
  | false =>
    rw [hs] at ht
    cases ht
    refine ⟨?_, hben.trans haen, fun hstart => hbunit.trans (haunit hstart),
      fun hsend => absurd (hs.symm.trans hsend) (by decide)⟩
    rw [hbtx, hatx, hnow]
    simp [Tx.next, hs]

/-- R5, R16: the operations of a tick, whatever clocks are tied. -/
theorem tickOps_transmitted {s t : State} {k : Tick} (h : tickOps (s.latch k) k = .next t) : Transmitted s t k.sys := by
  obtain ⟨a, b, hcons, hrx, hsys⟩ := tickOps_eq_next.mp h
  have cons : LeftToSys (s.latch k) a ∧ a.io.sysNow = (s.latch k).io.sysNow := by
    obtain hcons | rfl := edge_cases hcons
    exacts [⟨consCycle_left hcons, consCycle_sysNow hcons⟩, ⟨{}, rfl⟩]
  have rx : LeftToSys a b ∧ b.io.sysNow = a.io.sysNow := by
    obtain hrx | rfl := edge_cases hrx
    exacts [⟨rxCycle_left hrx, rxCycle_sysNow hrx⟩, ⟨{}, rfl⟩]
  obtain ⟨hleft, hnow⟩ := cons
  obtain ⟨hleft', hnow'⟩ := rx
  have hb := hleft.trans hleft'
  cases hk : k.sys with
  | none =>
    rw [hk] at hsys
    cases hsys
    exact transmitted_of_kept hb.tx hb.regs
  | some e =>
    rw [hk] at hsys
    have hlate : b.io.sysNow = e.now := hnow'.trans (hnow.trans (sysNow_latch s hk))
    exact (sysCycle_transmitted (congrArg Tx.busy hb.tx).symm hlate (fun _ => hostCycle_accessed hk hb) hsys).of_eq
      hb.tx hb.regs rfl rfl

theorem clockStep_transmitted {s t : State} {k : Tick} (h : clockStep s k = .next t) : Transmitted s t k.sys := by
  obtain ⟨u, hops, rfl⟩ := clockStep_eq_next.mp h
  exact (tickOps_transmitted hops).of_eq rfl rfl (by simp) (by simp)

/-- R129, R131: all that a step, but for an assertion of `rst`, does to the transmitter. -/
theorem step_transmitted {s t : State} (hm : s.takeMove.1 ≠ .rst true) (h : step s = .next t) :
    Transmitted s t (tickOf s.io.rst s.takeMove.1).sys := by
  obtain ⟨ms, n, htake⟩ := takeMove_eq s
  have hs : s.takeMove.2.tx = s.tx ∧ s.takeMove.2.regs = s.regs ∧ s.takeMove.2.io = s.io := by
    rw [htake]
    exact ⟨rfl, rfl, rfl⟩
  obtain ⟨htx, hregs, hio⟩ := hs
  obtain ⟨l, hl, rfl⟩ | ⟨hl, -⟩ | ⟨hl, rfl⟩ | ⟨k, hl, hr, rfl⟩ | ⟨k, hl, hr, hk⟩ := applyMove_cases h
  case inl | inr.inr.inl =>
    rw [hl]
    exact transmitted_of_kept htx hregs
  case inr.inl => exact absurd hl hm
  case inr.inr.inr.inl =>
    rw [hl, ← hio, hr]
    exact transmitted_of_kept htx hregs
  case inr.inr.inr.inr =>
    rw [hl, ← hio, hr]
    exact (clockStep_transmitted hk).of_eq htx hregs rfl rfl

/-- R166: an assertion of `rst` resets the transmitter. -/
theorem step_tx_of_rst {s t : State} (hm : s.takeMove.1 = .rst true) (h : step s = .next t) : t.tx = Tx.reset := by
  rw [step_eq, hm] at h
  cases h
  rfl

/-- The clock edges of a move that is placed while `rst` is 0. -/
theorem tickOf_of_moves {s : State} {k : Tick} {rest : List Move} (hm : s.moves = .clock k :: rest)
    (hr : s.io.rst = false) : s.takeMove.1 ≠ .rst true ∧ tickOf s.io.rst s.takeMove.1 = k := by
  rw [takeMove_of_moves hm, hr]
  exact ⟨by simp, rfl⟩

/-- R127, R128: a placed edge of the clocks, and the transmitter. -/
theorem step_clock_transmitted {s t : State} {k : Tick} {rest : List Move} (hm : s.moves = .clock k :: rest)
    (hr : s.io.rst = false) (h : step s = .next t) : Transmitted s t k.sys := by
  obtain ⟨hnot, htick⟩ := tickOf_of_moves hm hr
  exact htick ▸ step_transmitted hnot h

/-- R128: in a step of a telegram the current segment's boundary is crossed if it is due. -/
theorem Transmitted.of_busy {s t : State} {e : SysEdge} (h : Transmitted s t (some e)) (hbusy : s.tx.busy = true) :
    t.tx = if s.segDuration ≤ (e.now - s.tx.t0).toNat then s.tx.cross s.segDuration else s.tx :=
  h.tx.trans (if_pos hbusy)

/-- The edge of `clk_sys` that a move brings, if it brings one. -/
theorem clock_of_tickOf_sys {rst : Bool} {m : Move} {e : SysEdge} (h : (tickOf rst m).sys = some e) :
    ∃ k, m = .clock k ∧ k.sys = some e := by
  cases m with
  | clock k =>
    cases rst with
    | false => exact ⟨k, rfl, h⟩
    | true => cases h
  | line l | rst l => cases h

end Sys2Proof.Machine

section
open Sys2Proof Sys2Proof.Machine

/-- Settles O39: the step's transmitter is `Tx.next`, which advances while a telegram is being sent. -/
theorem segmentBoundaryResult : Obligations.SegmentBoundaryResult := by
  refine ⟨fun s t k e rest hm hr hk hbusy h => ?inStep, fun s => ⟨fun hnot => ?notDue, fun hdue hseg => ?next,
    fun hdue hseg => ?ends⟩⟩
  case inStep =>
    have ht := step_clock_transmitted hm hr h
    rw [hk] at ht
    exact ht.of_busy hbusy
  case notDue => exact (exec_txSegment s).trans (if_neg hnot)
  case next =>
    refine (exec_txSegment s).trans ((if_pos hdue).trans ((if_neg (not_le.mpr hseg)).trans ?_))
    rw [Tx.cross_of_lt hseg]
    rfl
  case ends =>
    refine (exec_txSegment s).trans ((if_pos hdue).trans ((if_pos hseg).trans ?_))
    rw [Tx.cross_of_last hseg]
    rfl

/-- Settles O41: an idle transmitter's next value is its own, or that of an accepted start. -/
theorem onlyAStartLeavesIdle : Obligations.OnlyAStartLeavesIdle := by
  refine ⟨fun s hi hidle => ?idle, fun s t hidle h hne hreset => ?leaves⟩
  case idle =>
    obtain ⟨-, hseg, hout⟩ := Tx.safe_iff.mp hi.tx
    exact ⟨by rw [hout, hidle, Bool.false_and], hseg hidle⟩
  case leaves =>
    have hnot : s.takeMove.1 ≠ .rst true := fun hm => hreset (step_tx_of_rst hm h)
    have htx := (step_transmitted hnot h).tx
    cases hsys : (tickOf s.io.rst s.takeMove.1).sys with
    | none => exact absurd (by rw [htx, hsys]; rfl) hne
    | some e =>
      obtain ⟨k, hk, hke⟩ := clock_of_tickOf_sys hsys
      rw [hsys, Option.elim_some, Tx.next, if_neg (by simp [hidle])] at htx
      cases hstart : starts e.bus with
      | false => exact absurd (by rw [htx, hstart]; rfl) hne
      | true =>
        obtain ⟨a, hb, hwe, hslot, hbit⟩ := starts_iff.mp hstart
        rw [hstart, if_pos rfl] at htx
        exact ⟨by rw [htx]; rfl, k, e, a, hk, hke, hb, hwe, hslot, hbit⟩

end
end

section
/-! PROOF. The schedule of a telegram (R126 to R128, R130): the segment table by its pulses, the time at which a boundary is
due as an offset from the start, and the two changes of the transmitter that keep to it. O40. -/

namespace Sys2Proof.Machine

/-! ## The segment table (R126) -/

/-- R126: the high phases are the even segments. -/
theorem segLevel_even (k : Nat) : segLevel (2 * k) = true := by simp [segLevel]

theorem segLevel_odd (k : Nat) : segLevel (2 * k + 1) = false := by simp [segLevel]

theorem segMul_gap (w : Word) : segMul w 131 = 40 := rfl

/-- R126: the low phase after the high phase of physical bit `j` of logical bit `i`. -/
theorem segMul_low (w : Word) {i j : Nat} (hi : i < 32) (hj : j < 2) :
    segMul w (2 * (2 * i + 1 + j) + 1) = if (w.getLsbD i = true ↔ j = 0) then 1 else 5 := by
  match j with
  | 0 =>
    rw [Nat.add_zero, segMul_firstLow w hi]
    simp
  | 1 =>
    rw [segMul_secondLow w hi]
    cases w.getLsbD i <;> simp

/-- R75: a telegram takes 308 units: the SYNC pulse, 32 logical bits of 8 units, the last pulse and the gap. -/
theorem segOffset_landmarks (w : Word) :
    segOffset w 2 = 11 ∧ segOffset w 130 = 267 ∧ segOffset w 131 = 268 ∧ segOffset w 132 = 308 := by
  have hbits : segOffset w 130 = 267 := segOffset_logicalBit w (i := 32) le_rfl
  have hlast : segOffset w 131 = 268 := by rw [segOffset_fall w (k := 65) le_rfl, hbits]
  exact ⟨rfl, hbits, hlast, by rw [segOffset_succ, hlast, segMul_gap]⟩

/-! ## What a step may make of a telegram (R128) -/

/-- R128: at most one boundary of a telegram is crossed in a step. -/
theorem Transmitted.kept_or_crossed {s t : State} {sys : Option SysEdge} (h : Transmitted s t sys)
    (hbusy : s.tx.busy = true) : t.tx = s.tx ∨ t.tx = s.tx.cross s.segDuration := by
  cases sys with
  | none => exact .inl h.tx
  | some e =>
    rw [h.of_busy hbusy]
    split
    exacts [.inr rfl, .inl rfl]

/-! ## The schedule (R130) -/

/-- R127: a start puts the telegram on its schedule. -/
theorem onSchedule_of_begun {t : State} {now : Stamp} {data : Word} (htx : t.tx = Tx.begun now data) :
    OnSchedule now t := by
  refine ⟨by rw [htx]; rfl, by rw [htx]; exact Nat.zero_le _, by rw [htx]; rfl, ?began⟩
  rw [htx]
  exact (BitVec.add_zero now).symm

namespace OnSchedule
variable {start : Stamp} {s t : State} (h : OnSchedule start s)
include h

/-- R126: the segment shown is that entry of the waveform. -/
theorem edge : (telegramEdges s.tx.word s.regs.tUs.toNat start)[s.tx.seg.toNat]? = some (s.tx.out, s.tx.t0) := by
  have hseg := h.seg
  rw [telegramEdges, List.getElem?_map, List.getElem?_range (by omega), h.level, h.began]
  rfl

/-- R128: the next segment starts, or the telegram ends, at the next offset. -/
theorem next_began : s.tx.t0 + BitVec.ofNat 64 s.segDuration =
    start + BitVec.ofNat 64 (s.regs.tUs.toNat * segOffset s.tx.word (s.tx.seg.toNat + 1)) := by
  rw [h.began, BitVec.add_assoc, ← BitVec.ofNat_add, segOffset_succ, Nat.mul_add, State.segDuration,
    Nat.mul_comm (segMul _ _)]

/-- R130: from the current segment's start on, its boundary is due once the next offset has been reached. -/
theorem due_iff {now : Stamp} (hnow : s.regs.tUs.toNat * segOffset s.tx.word s.tx.seg.toNat ≤ (now - start).toNat) :
    s.segDuration ≤ (now - s.tx.t0).toNat ↔
      s.regs.tUs.toNat * segOffset s.tx.word (s.tx.seg.toNat + 1) ≤ (now - start).toNat := by
  have hfits : (BitVec.ofNat 64 (s.regs.tUs.toNat * segOffset s.tx.word s.tx.seg.toNat)).toNat =
      s.regs.tUs.toNat * segOffset s.tx.word s.tx.seg.toNat :=
    Nat.mod_eq_of_lt (hnow.trans_lt (now - start).isLt)
  have helapsed : (now - s.tx.t0).toNat =
      (now - start).toNat - s.regs.tUs.toNat * segOffset s.tx.word s.tx.seg.toNat := by
    rw [h.began, ← BitVec.sub_sub, BitVec.toNat_sub_of_le (by rwa [BitVec.le_def, hfits]), hfits]
  rw [helapsed, segOffset_succ, Nat.mul_add, State.segDuration, Nat.mul_comm (segMul _ _)]
  omega

theorem kept (htx : t.tx = s.tx) (hunit : t.regs.tUs = s.regs.tUs) : OnSchedule start t := by
  obtain ⟨hbusy, hseg, hlevel, hbegan⟩ := h
  exact ⟨by rwa [htx], by rwa [htx], by rwa [htx], by rwa [htx, hunit]⟩

/-- R128: a boundary before the last one leaves the telegram on its schedule. -/
theorem crossed (hseg : s.tx.seg.toNat < 131) (htx : t.tx = s.tx.cross s.segDuration) (hunit : t.regs.tUs = s.regs.tUs) :
    OnSchedule start t ∧ t.tx.seg.toNat = s.tx.seg.toNat + 1 := by
  have hnext : (s.tx.seg + 1).toNat = s.tx.seg.toNat + 1 := by bv_omega
  rw [Tx.cross_of_lt hseg] at htx
  have hidx : t.tx.seg.toNat = s.tx.seg.toNat + 1 := (congrArg (fun x => x.seg.toNat) htx).trans hnext
  refine ⟨⟨?busy, by omega, ?level, ?began⟩, hidx⟩
  case busy => rw [htx, h.busy]
  case level => rw [hidx, htx]
  case began => rw [hidx, hunit, htx, h.next_began]

/-- R128: the last boundary ends the telegram, 308 units after its start. -/
theorem ended (hseg : s.tx.seg.toNat = 131) (htx : t.tx = s.tx.cross s.segDuration) :
    t.tx.busy = false ∧ t.tx.out = false ∧ t.tx.t0 = start + BitVec.ofNat 64 (308 * s.regs.tUs.toNat) := by
  obtain ⟨-, -, -, hlength⟩ := segOffset_landmarks s.tx.word
  rw [Tx.cross_of_last hseg.ge] at htx
  rw [htx]
  refine ⟨rfl, rfl, ?_⟩
  rw [h.next_began, hseg, hlength, Nat.mul_comm]

end OnSchedule

end Sys2Proof.Machine

section
open Sys2Proof Sys2Proof.Machine

/-- Settles O40: a start puts the telegram on its schedule, and a step keeps the transmitter or crosses the boundary that the
schedule says. -/
theorem segmentTableOfATelegram : Obligations.SegmentTableOfATelegram := by
  refine ⟨fun w => ?table, ?started, fun s start h => h.edge, ?scheduled, ?shown⟩
  case table =>
    obtain ⟨h2, h130, h131, h132⟩ := segOffset_landmarks w
    refine ⟨⟨rfl, rfl⟩, ⟨rfl, rfl⟩, fun i j hi hj => ?bit, ⟨rfl, rfl⟩, ⟨rfl, rfl⟩, h2, h130, h131, h132, fun i hi => ?eight⟩
    case bit =>
      have hhigh : 2 + 4 * i + 2 * j = 2 * (2 * i + 1 + j) := by omega
      have hlow : 3 + 4 * i + 2 * j = 2 * (2 * i + 1 + j) + 1 := by omega
      rw [hhigh, hlow]
      exact ⟨⟨segLevel_even _, segMul_high w (by omega)⟩, segLevel_odd _, segMul_low w hi hj⟩
    case eight =>
      have hbit (n : Nat) : 2 + 4 * n = 2 * (2 * n + 1) := by omega
      rw [hbit, hbit, segOffset_logicalBit w (by omega), segOffset_logicalBit w (by omega)]
      omega
  case started =>
    intro s t k e a rest hm hr hk hb hwe hslot hbit hidle h
    have hstart : starts e.bus = true := starts_iff.mpr ⟨a, hb, hwe, hslot, hbit⟩
    obtain ⟨htx, -, hunit, -⟩ := step_clock_transmitted hm hr h
    rw [hk, Option.elim_some, Tx.next, if_neg (by simp [hidle]), if_pos hstart] at htx
    rw [hk] at hunit
    rw [htx]
    exact ⟨onSchedule_of_begun htx, rfl, rfl, hunit (.inr hstart)⟩
  case scheduled =>
    intro s t start h hm hs
    have ht := step_transmitted hm hs
    have hunit : t.regs.tUs = s.regs.tUs := ht.unit (.inl h.busy)
    obtain htx | htx := ht.kept_or_crossed h.busy
    case inl =>
      have ht' := h.kept htx hunit
      exact ⟨by rw [htx], hunit, fun _ => ht', fun hidle => absurd (ht'.busy.symm.trans hidle) (by decide)⟩
    case inr =>
      have hword : t.tx.word = s.tx.word := htx ▸ Tx.cross_word _ _
      obtain hlt | hlast : s.tx.seg.toNat < 131 ∨ s.tx.seg.toNat = 131 := Nat.lt_or_eq_of_le h.seg
      · obtain ⟨ht', -⟩ := h.crossed hlt htx hunit
        exact ⟨hword, hunit, fun _ => ht', fun hidle => absurd (ht'.busy.symm.trans hidle) (by decide)⟩
      · obtain ⟨hidle, hout, ht0⟩ := h.ended hlast htx
        exact ⟨hword, hunit, fun hbusy => absurd (hbusy.symm.trans hidle) (by decide),
          fun _ => ⟨hlast, ht.done h.busy hidle, hout, ht0⟩⟩
  case shown =>
    intro s t start k rest h hm hr hs
    have ht := step_clock_transmitted hm hr hs
    refine ⟨fun hk => by rw [ht.tx, hk]; rfl, fun e hk hbegun => ?_⟩
    rw [hk] at ht
    have htx := ht.of_busy h.busy
    split
    case isTrue hearly => exact htx.trans (if_neg fun hdue => absurd ((h.due_iff hbegun).mp hdue) (not_le.mpr hearly))
    case isFalse hlate =>
      rw [if_pos ((h.due_iff hbegun).mpr (not_lt.mp hlate))] at htx
      split
      case isTrue hlt =>
        obtain ⟨ht', hidx⟩ := h.crossed hlt htx (ht.unit (.inl h.busy))
        exact ⟨ht'.busy, hidx⟩
      case isFalse hlast => exact (h.ended (le_antisymm h.seg (not_lt.mp hlast)) htx).1

end
end

section
/-! PROOF. The transmitter and the receive side share no state (R131, R177): each one's next value is a function of its own value
and of the inputs that the two have in common. O42. -/

namespace Sys2Proof.Machine

/-! ## The transmitter -/

/-- R131: the transmitter's next value depends on its own value, the registers, `rst` and the move. -/
theorem step_tx_congr {s s' t t' : State} (htx : s.tx = s'.tx) (hregs : s.regs = s'.regs) (hrst : s.io.rst = s'.io.rst)
    (hmove : s.takeMove.1 = s'.takeMove.1) (h : step s = .next t) (h' : step s' = .next t') : t.tx = t'.tx := by
  by_cases hm : s.takeMove.1 = .rst true
  · rw [step_tx_of_rst hm h, step_tx_of_rst (hmove ▸ hm) h']
  · rw [(step_transmitted hm h).tx, (step_transmitted (hmove ▸ hm) h').tx, htx, hregs, hrst, hmove]

/-! ## The receive side's step as a function of what it reads -/

/-- R104: what the write side makes of the receive side, by the enable, the room and the condition. -/
theorem writeSide_rx_eq (s : State) (c : Option Code) : (s.writeSide c).rx = if s.rxEnView then
    { s.rx with
      ovfPending := if s.ccFull then s.rx.ovfPending || c.isSome else s.rx.ovfPending && c.isSome
      dropCnt := if c.isSome && (s.ccFull || s.rx.ovfPending) then satinc16 s.rx.dropCnt else s.rx.dropCnt }
    else s.rx := by
  have hunmarked (hovf : s.rx.ovfPending = false) : { s.rx with ovfPending := false } = s.rx := hovf ▸ rfl
  obtain ⟨hen, hw⟩ | ⟨hen, hovf, hroom, rfl, hw⟩ | ⟨hen, hovf, hroom, hc, hw⟩ | ⟨hen, hovf, hroom, v, rfl, hw⟩ |
    ⟨hen, hfull, hc, hw⟩ | ⟨hen, rfl, hno, hw⟩ := writeSide_cases s c
  case inl => simp [hw, hen]
  case inr.inl => simp [hw, hen, hroom, State.pushMarker]
  case inr.inr.inl =>
    obtain ⟨v, rfl⟩ := Option.ne_none_iff_exists'.mp hc
    simp [hw, hen, hovf, hroom, State.dropCond, State.pushMarker]
  case inr.inr.inr.inl => simp [hw, hen, hroom, hovf, hunmarked hovf]
  case inr.inr.inr.inr.inl =>
    obtain ⟨v, rfl⟩ := Option.ne_none_iff_exists'.mp hc
    simp [hw, hen, hfull, State.dropCond]
  case inr.inr.inr.inr.inr =>
    obtain hovf | hfull := hno
    · simp [hw, hen, hovf, hunmarked hovf]
    · simp [hw, hen, hfull]

/-- R83 to R85: the receive side's step, from its start. -/
theorem rxCycle_eq (s : State) : rxCycle s = .next (if s.rxEnView then
      s.applyDet (if s.sLvl = s.rx.prevLevel then detTimeout s.regs s.io.rxNow s.rx
        else detEvent s.regs s.sLvl s.io.rxNow s.rx)
    else s.rxDisabled) := by
  cases hen : s.rxEnView with
  | false => exact rxCycle_of_disabled hen
  | true =>
    by_cases hlvl : s.sLvl = s.rx.prevLevel
    · rw [rxCycle_of_same_level hen hlvl, if_pos rfl, if_pos hlvl]
      rfl
    · rw [rxCycle_of_edge hen hlvl (decode_edgeWord rfl), if_pos rfl, if_neg hlvl]
      cases s.sLvl <;> rfl

/-- What the receive side's step reads is the same in `s` and `s'`. -/
structure SameReceive (s s' : State) : Prop where
  params : s.params = s'.params := by rfl
  rx : s.rx = s'.rx := by rfl
  cc : s.cc = s'.cc := by rfl
  regs : s.regs = s'.regs := by rfl
  now : s.io.rxNow = s'.io.rxNow := by rfl

section
variable {s s' t t' : State}

theorem SameReceive.trans {u : State} (h : SameReceive s t) (h' : SameReceive t u) : SameReceive s u :=
  ⟨h.params.trans h'.params, h.rx.trans h'.rx, h.cc.trans h'.cc, h.regs.trans h'.regs, h.now.trans h'.now⟩

theorem SameReceive.symm (h : SameReceive s t) : SameReceive t s :=
  ⟨h.params.symm, h.rx.symm, h.cc.symm, h.regs.symm, h.now.symm⟩

theorem SameReceive.views (h : SameReceive s s') :
    s.rxEnView = s'.rxEnView ∧ s.sLvl = s'.sLvl ∧ s.ccFull = s'.ccFull := by
  simp only [State.rxEnView, State.sLvl, State.ccFull, h.params, h.rx, h.cc, and_self]

theorem SameReceive.applyDet (h : SameReceive s s') (o : Option Code × Rx) : (s.applyDet o).rx = (s'.applyDet o).rx := by
  have hset : SameReceive (s.setRx o.2) (s'.setRx o.2) := ⟨h.params, rfl, h.cc, h.regs, h.now⟩
  obtain ⟨hen, -, hfull⟩ := hset.views
  rw [State.applyDet, State.applyDet, writeSide_rx_eq, writeSide_rx_eq, hen, hfull, hset.rx]

theorem SameReceive.rxCycle (h : SameReceive s s') (hs : rxCycle s = .next t) (hs' : rxCycle s' = .next t') :
    t.rx = t'.rx := by
  obtain ⟨hen, hlvl, -⟩ := h.views
  rw [rxCycle_eq] at hs hs'
  cases hs
  cases hs'
  rw [hen, hlvl, h.rx, h.regs, h.now]
  split
  · exact h.applyDet _
  · simp only [State.rxDisabled, emit_rx, setRx_rx, h.rx, hlvl]

/-! ## The other operations of a step -/

/-- R108: the consumer's step leaves what the receive side reads. -/
theorem consCycle_sameReceive (h : consCycle s = .next t) : SameReceive t s := by
  obtain rfl | ⟨-, f, rest, -, rfl⟩ := consCycle_outcome h <;> exact {}

/-- R149: the `clk_sys` step leaves the receive side. -/
theorem sysCycle_rx {s0 : State} (h : sysCycle s0 s = .next t) : t.rx = s.rx := by
  obtain ⟨a, b, hhost, hdec, htx⟩ := sysCycle_eq_next.mp h
  have ha : a.rx = s.rx := by
    obtain ⟨r, x, p, rfl, -⟩ := hostCycle_effect hhost
    rfl
  have hb : b.rx = a.rx := by
    obtain rfl | rfl | ⟨-, c, v, u, hpop, hdone⟩ := decoderCycle_outcome hdec
    · rfl
    · rfl
    · obtain ⟨rest, -, rfl⟩ := popCond_eq_some.mp hpop
      obtain rfl | hconsume := hdone
      · simp
      · rw [runWord_cond] at hconsume
        split at hconsume <;> cases hconsume <;> simp
  have ht : t.rx = b.rx := by
    obtain rfl | ⟨t0, rfl | ⟨-, -, rfl⟩⟩ := txCycle_outcome htx <;> rfl
  exact ht.trans (hb.trans ha)

theorem SameReceive.tickOps (h : SameReceive s s') {k : Tick} (hs : tickOps s k = .next t) (hs' : tickOps s' k = .next t') :
    t.rx = t'.rx := by
  obtain ⟨a, b, hcons, hrx, hsys⟩ := tickOps_eq_next.mp hs
  obtain ⟨a', b', hcons', hrx', hsys'⟩ := tickOps_eq_next.mp hs'
  have cons {u v : State} (hu : (if k.cons.isSome then consCycle u else .next u) = .next v) : SameReceive v u :=
    (edge_cases hu).elim consCycle_sameReceive fun heq => heq ▸ {}
  have sys {s0 u v : State} (hu : (if k.sys.isSome then sysCycle s0 u else .next u) = .next v) : v.rx = u.rx :=
    (edge_cases hu).elim sysCycle_rx fun heq => heq ▸ rfl
  have ha : SameReceive a a' := ((cons hcons).trans h).trans (cons hcons').symm
  have hb : b.rx = b'.rx := by
    cases hk : k.rx.isSome <;> rw [hk] at hrx hrx'
    · cases hrx
      cases hrx'
      exact ha.rx
    · exact ha.rxCycle hrx hrx'
  rw [sys hsys, sys hsys', hb]

/-- R56, R82: the synchronisers of a tick touch two parts of the receive side. -/
theorem shiftAll_rx (s0 s : State) (k : Tick) : (s0.shiftAll s k).rx = k.rx.elim s.rx fun e => { s.rx with
    sync := stepBitSync (s0.forced s).rxIn e.keepRxIn s0.io.rxIn s0.rx.sync
    enSync := stepBitSync (s0.forced s).rxEn e.keepRxEn s0.regs.rxEn s0.rx.enSync } := by
  obtain ⟨_ | _, _ | _, _ | _⟩ := k <;> rfl

/-- R57: what fairness forces on the receive side's inputs, from the registers, the ports and the record. -/
theorem forced_of_tickOps {k : Tick} (h : tickOps (s.latch k) k = .next t) :
    ((s.latch k).forced t).rxIn = s.fair.rxIn ∧
    ((s.latch k).forced t).rxEn =
      settledAfter false s.fair.rxEn (enableAfter (k.sys.bind SysEdge.bus) s.regs.rxEn == s.regs.rxEn) := by
  obtain ⟨_, _, _, _, -, -, -, -, -, hran⟩ := tickOps_ran h
  simp [State.forced, State.fairAfter, hran.inputs, (tickOps_transmitted h).enable, settledAfter]

theorem SameReceive.clockStep (h : SameReceive s s') (hio : s.io = s'.io) (hfair : s.fair = s'.fair) {k : Tick}
    (hs : clockStep s k = .next t) (hs' : clockStep s' k = .next t') : t.rx = t'.rx := by
  obtain ⟨u, hops, rfl⟩ := clockStep_eq_next.mp hs
  obtain ⟨u', hops', rfl⟩ := clockStep_eq_next.mp hs'
  have hlatch : (s.latch k).io = (s'.latch k).io := by simp only [State.latch, setIo_io, hio]
  have hsame : SameReceive (s.latch k) (s'.latch k) := ⟨h.params, h.rx, h.cc, h.regs, congrArg Ports.rxNow hlatch⟩
  have hu : u.rx = u'.rx := hsame.tickOps hops hops'
  obtain ⟨hin, hen⟩ := forced_of_tickOps hops
  obtain ⟨hin', hen'⟩ := forced_of_tickOps hops'
  rw [settle_rx, settle_rx, shiftAll_rx, shiftAll_rx, hu, hin, hen, hin', hen', hlatch, hsame.rx, hsame.regs, h.regs, hfair]

/-- R131: the receive side's next value depends on what its step reads, the ports, the record and the move. -/
theorem SameReceive.applyMove (h : SameReceive s s') (hio : s.io = s'.io) (hfair : s.fair = s'.fair) {m : Move}
    (hs : applyMove m s = .next t) (hs' : applyMove m s' = .next t') : t.rx = t'.rx := by
  match m with
  | .line _ | .rst false =>
    cases hs
    cases hs'
    exact h.rx
  | .rst true =>
    cases hs
    cases hs'
    exact congrArg Rx.reset h.params
  | .clock k =>
    simp only [Sys2Proof.Machine.applyMove] at hs hs'
    rw [← hio] at hs'
    split at hs
    next hr =>
      rw [if_pos hr] at hs'
      cases hs
      cases hs'
      exact h.rx
    next hr =>
      rw [if_neg hr] at hs'
      exact h.clockStep hio hfair hs hs'

end

/-! ## The environment's move -/

theorem takeMove_congr {s s' : State} (hmoves : s.moves = s'.moves) (hfree : s.freeIdx = s'.freeIdx) :
    s.takeMove.1 = s'.takeMove.1 := by
  unfold State.takeMove
  rw [hmoves, hfree]
  split <;> rfl

theorem step_rx_congr {s s' t t' : State} (hsame : SameReceive s s') (hio : s.io = s'.io) (hfair : s.fair = s'.fair)
    (hmove : s.takeMove.1 = s'.takeMove.1) (h : step s = .next t) (h' : step s' = .next t') : t.rx = t'.rx := by
  obtain ⟨ms, n, htake⟩ := takeMove_eq s
  obtain ⟨ms', n', htake'⟩ := takeMove_eq s'
  rw [step_eq, htake] at h
  rw [step_eq, htake', ← hmove] at h'
  have hsame' : SameReceive ((s.setMoves ms).setFreeIdx n) ((s'.setMoves ms').setFreeIdx n') := { hsame with }
  exact hsame'.applyMove hio hfair h h'

end Sys2Proof.Machine

section
open Sys2Proof Sys2Proof.Machine

/-- Settles O42: what each side's next value depends on is what the two states have in common. -/
theorem transmitterAndReceiverAreSeparate : Obligations.TransmitterAndReceiverAreSeparate := by
  intro s1 s2 t1 t2 hparams hregs hio hfair hmoves hfree h1 h2
  have hmove := takeMove_congr hmoves hfree
  exact ⟨fun htx => step_tx_congr htx hregs (congrArg Ports.rst hio) hmove h1 h2,
    fun hrx hcc => step_rx_congr ⟨hparams, hrx, hcc, hregs, congrArg Ports.rxNow hio⟩ hio hfair hmove h1 h2⟩

end
end

section
/-! PROOF. The host's registers one by one (R135 to R147): the fields of the word that each one reads as, and what a write of
CTRL and a guarded write do. O6, O7, O9, O11, O12, O13 and O16. -/

namespace Sys2Proof.Machine

/-! ## The fields of the register words -/

theorem extractLsb'_eq_zero {w start len : Nat} {x : BitVec w} (h : ∀ i, start ≤ i → x.getLsbD i = false) :
    x.extractLsb' start len = 0 := by
  apply BitVec.eq_of_getLsbD_eq
  intro i hi
  simp [h (start + i) (Nat.le_add_right _ _)]

/-- R137: CTRL has one bit, RX_EN. -/
theorem ctrlWord_eq (s : State) : s.ctrlWord = if s.regs.rxEn then 1 else 0 := by
  rw [State.ctrlWord]
  cases s.regs.rxEn <;> rfl

/-- R138: STATUS by its bits. -/
theorem getLsbD_statusWord (s : State) (i : Nat) : s.statusWord.getLsbD i =
    if i = 0 then s.rxActive
    else if i = 1 then s.tx.busy
    else if i = 2 then s.tx.out
    else if i = 3 then s.fcFull
    else if i = 4 then s.cc.emptyR
    else if i < 7 then s.dec.state.code.getLsbD (i - 5)
    else if i < 13 then s.dec.cnt.getLsbD (i - 7)
    else false := by
  simp only [State.statusWord, BitVec.getLsbD_append, BitVec.getLsbD_ofBool]
  match i with
  | 0 | 1 | 2 | 3 | 4 => rfl
  | n + 5 => grind

theorem extractLsb'_statusWord_state (s : State) : s.statusWord.extractLsb' 5 2 = s.dec.state.code := by
  apply BitVec.eq_of_getLsbD_eq
  intro i hi
  rw [BitVec.getLsbD_extractLsb', getLsbD_statusWord]
  grind

theorem extractLsb'_statusWord_cnt (s : State) : s.statusWord.extractLsb' 7 6 = s.dec.cnt := by
  apply BitVec.eq_of_getLsbD_eq
  intro i hi
  rw [BitVec.getLsbD_extractLsb', getLsbD_statusWord]
  grind

/-- R139: IRQ_STATUS by its bits. -/
theorem getLsbD_irqStatusWord (s : State) (i : Nat) : s.irqStatusWord.getLsbD i =
    if i = 0 then s.regs.txDone else if i = 1 then s.regs.condOvf else if i = 2 then s.regs.framePushed else false := by
  simp only [State.irqStatusWord, BitVec.getLsbD_append, BitVec.getLsbD_ofBool]
  grind

/-! ## Writes -/

/-- R135: the guard by its three terms. -/
theorem cfgGuard_iff {s : State} : s.cfgGuard = true ↔ s.regs.rxEn = false ∧
    (s.views.rxActive.getLastD false = false ∧ s.cc.wsync.getLastD 0 = s.cc.rcnt) ∧ s.tx.busy = false := by
  have hactive : s.rxActive = false ↔ s.views.rxActive.getLastD false = false ∧ s.cc.wsync.getLastD 0 = s.cc.rcnt :=
    rxActive_eq_false
  simp only [State.cfgGuard, Bool.and_eq_true, Bool.not_eq_true', hactive, and_assoc]

/-- R137: a write of CTRL without a start, and with one. -/
theorem writeCtrl_of_no_start {s : State} {v : Word} (h : v.getLsbD 1 = false) :
    s.writeCtrl v = s.busWrite.setRegs { s.regs with rxEn := v.getLsbD 0 } := if_neg (Bool.eq_false_iff.mp h)

theorem writeCtrl_of_start {s : State} {v : Word} (h : v.getLsbD 1 = true) :
    s.writeCtrl v = (s.busWrite.setRegs { s.regs with rxEn := v.getLsbD 0 }).startTelegram := if_pos h

/-- R147: the slots from 11 on. -/
theorem unmapped_of_slot {off : BitVec 6} (h : 11 ≤ (off.extractLsb' 2 4).toNat) :
    (off >>> 2).toNat = 11 ∨ ∃ n, (off >>> 2).toNat = n + 12 := by
  rw [← BitVec.setWidth_ushiftRight_eq_extractLsb, toNat_slot] at h
  obtain h | h := h.eq_or_lt
  · exact .inl h.symm
  · exact .inr (Nat.exists_eq_add_of_le' h)

end Sys2Proof.Machine

section
open Sys2Proof Sys2Proof.Machine

/-- Settles O6: the meanings of RD_ID and WR_ID, and slot 0 in both directions. -/
theorem idIsConstant : Obligations.IdIsConstant := fun _ _ _ => ⟨rfl, rfl, rfl, rfl⟩

/-- Settles O7: TX_START and WR_CTRL are one write, which starts a telegram by bit 1. -/
theorem ctrlReadsAndWrites : Obligations.CtrlReadsAndWrites := by
  intro s x v
  refine ⟨?read, fun hno => ?write, fun hstart hbusy => ?refused, fun hstart hidle => ?started, rfl, decode_ctrlWrite 0 v, rfl⟩
  case read => exact ctrlWord_eq s ▸ rfl
  case write => exact congrArg _ (writeCtrl_of_no_start hno)
  case refused => exact congrArg _ ((writeCtrl_of_start hstart).trans (startTelegram_of_busy hbusy))
  case started => exact congrArg _ ((writeCtrl_of_start hstart).trans (startTelegram_of_idle hidle))

/-- Settles O9: STATUS by its bits. -/
theorem statusShowsItsFields : Obligations.StatusShowsItsFields := by
  intro s x v
  have bit := getLsbD_statusWord s
  refine ⟨⟨s.statusWord, rfl, bit 0, bit 1, bit 2, bit 3, bit 4, ?state, extractLsb'_statusWord_cnt s,
    extractLsb'_eq_zero fun i hi => ?zero⟩, rfl, rfl, rfl⟩
  case state =>
    rw [extractLsb'_statusWord_state]
    cases s.dec.state <;> rfl
  case zero =>
    rw [bit]
    grind

/-- Settles O11: IRQ_ENABLE is its three bits under 29 zeros. -/
theorem irqEnableReadsAndWrites : Obligations.IrqEnableReadsAndWrites := fun s _ _ =>
  ⟨⟨s.irqEnableWord, rfl, BitVec.extractLsb'_append_eq_right, BitVec.extractLsb'_append_eq_left⟩, rfl, rfl, rfl, rfl⟩

/-- Settles O12: the three words by their halves, and the guard by its terms. -/
theorem configurationWritesAreGuarded : Obligations.ConfigurationWritesAreGuarded := by
  intro s x v
  refine ⟨⟨s.timing0Word, rfl, BitVec.extractLsb'_append_eq_right, BitVec.extractLsb'_append_eq_left⟩,
    ⟨s.timing1Word, rfl, BitVec.extractLsb'_append_eq_right, BitVec.extractLsb'_append_eq_left⟩,
    ⟨s.rxcfgWord, rfl, ?enable, BitVec.extractLsb'_append_eq_left⟩, ?writes, rfl, rfl, rfl, rfl, rfl, rfl,
    rfl, rfl, rfl, rfl, rfl⟩
  case enable =>
    rw [State.rxcfgWord]
    cases s.regs.pauseTimeoutEn <;> rfl
  case writes =>
    split
    case isTrue h =>
      have write (r : Regs) : (.next (s.guardedWrite r) : Result) = .next (s.busWrite.setRegs r) :=
        congrArg _ (guardedWrite_of_guard r (cfgGuard_iff.mpr h))
      exact ⟨write _, write _, write _⟩
    case isFalse h =>
      have hno : s.cfgGuard = false := Bool.eq_false_iff.mpr fun hguard => h (cfgGuard_iff.mp hguard)
      have write (r : Regs) : (.next (s.guardedWrite r) : Result) = .next s.busWrite :=
        congrArg _ (guardedWrite_of_no_guard r hno)
      exact ⟨write _, write _, write _⟩

/-- Settles O13: the meanings of RD_TX_DATA and WR_TX_DATA, and slot 8 in both directions. -/
theorem txDataReadsAndWrites : Obligations.TxDataReadsAndWrites := fun _ _ _ => ⟨rfl, rfl, rfl, rfl, rfl⟩

/-- Settles O16: slot 11 and the four above it. -/
theorem unmappedOffsetsReadZero : Obligations.UnmappedOffsetsReadZero := by
  refine ⟨fun _ _ _ _ => ⟨rfl, rfl, rfl, rfl⟩, fun v off h => ?_⟩
  unfold decodeRead decodeWrite
  obtain hslot | ⟨n, hslot⟩ := unmapped_of_slot h <;> rw [hslot]
  · exact ⟨.inl ⟨_, rfl⟩, .inl ⟨_, rfl⟩⟩
  · exact ⟨.inr ⟨_, rfl⟩, .inr ⟨_, rfl⟩⟩

end
end

section
/-! PROOF. The host's registers in a step with an edge of `clk_sys` (R16, R133, R139, R146, R149): what the tied clocks leave of the
start of the step, what the host's access, the decoder and the transmitter make of the reporting registers one after the
other, and from these one summary of the step. O17, O10 and O15. -/

namespace Sys2Proof.Machine

/-! ## What the tied clocks leave of the start of the step -/

/-- From `s` to `b` the cycles of the tied clocks have moved these entries, and have left what the `clk_sys` cycle reads. -/
structure Tied (s b : State) (pushed : List Code) (popped : List Word) : Prop where
  left : LeftToSys s b
  ran : Ran s b pushed [] [] popped
  params : b.params = s.params
  sysNow : b.io.sysNow = s.io.sysNow
  busRdata : b.io.busRdata = s.io.busRdata

theorem Tied.refl (s : State) : Tied s s [] [] := ⟨{}, .refl s, rfl, rfl, rfl⟩

theorem Tied.trans {s a b : State} {pushed : List Code} {popped : List Word} (h : Tied s a [] popped)
    (h' : Tied a b pushed []) : Tied s b pushed popped :=
  ⟨h.left.trans h'.left, by simpa using h.ran.trans h'.ran, h'.params.trans h.params, h'.sysNow.trans h.sysNow,
    h'.busRdata.trans h.busRdata⟩

theorem consCycle_tied {s t : State} (h : consCycle s = .next t) : ∃ popped, Tied s t [] popped := by
  obtain ⟨popped, -, hran⟩ := consCycle_ran h
  have hrdata : t.io.busRdata = s.io.busRdata := by
    obtain rfl | ⟨-, f, rest, -, rfl⟩ := consCycle_outcome h <;> rfl
  exact ⟨popped, consCycle_left h, hran, (consCycle_sameReceive h).params, consCycle_sysNow h, hrdata⟩

theorem rxCycle_tied {s t : State} (h : rxCycle s = .next t) : ∃ pushed, Tied s t pushed [] := by
  obtain ⟨pushed, -, -, hran⟩ := rxCycle_ran h
  have hrdata : t.io.busRdata = s.io.busRdata := by
    obtain rfl | ⟨o, rfl, -⟩ := rxCycle_outcome h
    · rfl
    · rw [State.applyDet, writeSide_io]
      rfl
  exact ⟨pushed, rxCycle_left h, hran, (rxCycle_leaves h).2, rxCycle_sysNow h, hrdata⟩

/-- R16: the operations of a tick with an edge of `clk_sys`, around that domain's cycle. -/
theorem tickOps_tied {s t : State} {k : Tick} {e : SysEdge} (hk : k.sys = some e) (h : tickOps s k = .next t) :
    ∃ b pushed popped, Tied s b pushed popped ∧ sysCycle s b = .next t := by
  obtain ⟨a, b, hcons, hrx, hsys⟩ := tickOps_eq_next.mp h
  have cons : ∃ popped, Tied s a [] popped :=
    (edge_cases hcons).elim consCycle_tied fun heq => heq ▸ ⟨[], .refl _⟩
  have rx : ∃ pushed, Tied a b pushed [] := (edge_cases hrx).elim rxCycle_tied fun heq => heq ▸ ⟨[], .refl _⟩
  obtain ⟨popped, hcons⟩ := cons
  obtain ⟨pushed, hrx⟩ := rx
  rw [hk] at hsys
  exact ⟨b, pushed, popped, hcons.trans hrx, hsys⟩

section
variable {s b : State} {pushed : List Code} {popped : List Word} (h : Tied s b pushed popped)
include h

theorem Tied.fcFull : b.fcFull = s.fcFull := by
  have hwcnt : b.fc.wcnt = s.fc.wcnt := h.ran.frame.wcnt
  simp only [State.fcFull, Chan.fullW, Chan.rview, h.params, h.ran.frameSync, hwcnt]

/-- R133: every register still reads as it did at the start of the step. -/
theorem Tied.regval (slot : BitVec 4) : b.regval slot = s.regval slot := by
  have hrcnt : b.cc.rcnt = s.cc.rcnt := h.ran.cond.rcnt
  have hempty : b.cc.emptyR = s.cc.emptyR := by simp only [Chan.emptyR, Chan.wview, h.ran.condSync, hrcnt]
  have hactive : b.rxActive = s.rxActive := by
    simp only [State.rxActive, State.activeView, Chan.wview, h.ran.views, h.ran.condSync, hrcnt]
  have hstatus : b.statusWord = s.statusWord := by
    rw [State.statusWord, hempty, hactive, h.fcFull, h.left.dec, h.left.tx]
    rfl
  have hdrops : b.condDropCntWord = s.condDropCntWord := by
    rw [State.condDropCntWord, State.dropView, h.ran.views]
    rfl
  simp only [State.regval, State.ctrlWord, State.irqStatusWord, State.irqEnableWord, State.timing0Word, State.timing1Word,
    State.rxcfgWord, State.decStatsWord, hstatus, hdrops, h.left.regs]

end

/-! ## The registers that the hardware reports in -/

/-- The bits of IRQ_STATUS and the counters of DEC_STATS. -/
structure Reports where
  txDone : Bool
  condOvf : Bool
  framePushed : Bool
  discardCnt : Half
  violationCnt : Half

def Regs.reports (g : Regs) : Reports := ⟨g.txDone, g.condOvf, g.framePushed, g.discardCnt, g.violationCnt⟩

/-! ## The host's access (R133, R139, R146) -/

/-- The access writes a 1 to bit `i` of IRQ_STATUS. -/
def clearsIrq (bus : Option BusAccess) (i : Nat) : Bool :=
  match bus with
  | some a => a.we && a.off.extractLsb' 2 4 == 3 && a.wdata.getLsbD i
  | none => false

/-- The access writes DEC_STATS. -/
def clearsStats (bus : Option BusAccess) : Bool :=
  match bus with
  | some a => a.we && a.off.extractLsb' 2 4 == 10
  | none => false

/-- What `bus_rdata` carries for an access in the state `s`. -/
def State.readback (s : State) (bus : Option BusAccess) : Word :=
  match bus with
  | some a => if a.we then 0 else s.regval (a.off.extractLsb' 2 4)
  | none => 0

/-- The reports after an access. -/
def Reports.accessed (r : Reports) (bus : Option BusAccess) : Reports where
  txDone := r.txDone && !clearsIrq bus 0
  condOvf := r.condOvf && !clearsIrq bus 1
  framePushed := r.framePushed && !clearsIrq bus 2
  discardCnt := if clearsStats bus then 0 else r.discardCnt
  violationCnt := if clearsStats bus then 0 else r.violationCnt

theorem Reports.accessed_of_no_clear (r : Reports) {bus : Option BusAccess} (hirq : ∀ i, clearsIrq bus i = false)
    (hstats : clearsStats bus = false) : r.accessed bus = r := by
  simp [Reports.accessed, hirq, hstats]

/-- R46, R49: a slot as a number. -/
theorem slot_eq_iff {off : BitVec 6} {slot : BitVec 4} : off.extractLsb' 2 4 = slot ↔ (off >>> 2).toNat = slot.toNat := by
  rw [← BitVec.toNat_inj, ← toNat_slot, BitVec.setWidth_ushiftRight_eq_extractLsb]

/-- R139, R146: of all writes only those of IRQ_STATUS and DEC_STATS reach the reports; every write shows `bus_rdata` = 0. -/
theorem exec_decodeWrite_reports {a : BusAccess} {s t : State} (hwe : a.we = true)
    (h : exec (decodeWrite a.off a.wdata) s = .next t) :
    t.regs.reports = s.regs.reports.accessed (some a) ∧ t.io.busRdata = 0 := by
  have hirq (i : Nat) : clearsIrq (some a) i = (decide ((a.off >>> 2).toNat = 3) && a.wdata.getLsbD i) := by
    simp only [clearsIrq, hwe, Bool.true_and]
    exact congrArg (· && _) (decide_eq_decide.mpr (slot_eq_iff (slot := 3)))
  have hstats : clearsStats (some a) = decide ((a.off >>> 2).toNat = 10) := by
    simp only [clearsStats, hwe, Bool.true_and]
    exact decide_eq_decide.mpr (slot_eq_iff (slot := 10))
  unfold decodeWrite at h
  generalize (a.off >>> 2).toNat = slot at h hirq hstats
  have kept (h3 : slot ≠ 3) (h10 : slot ≠ 10) : s.regs.reports.accessed (some a) = s.regs.reports :=
    Reports.accessed_of_no_clear _ (fun i => by simp [hirq, h3]) (by simp [hstats, h10])
  match slot with
  | 3 | 10 =>
    cases h
    exact ⟨by simp [Regs.reports, Reports.accessed, hirq, hstats], rfl⟩
  | 1 =>
    cases (exec_ctrlWrite _ _ s).symm.trans h
    rw [kept (by decide) (by decide), writeCtrl_regs, writeCtrl_io]
    exact ⟨rfl, rfl⟩
  | 5 | 6 | 7 =>
    cases h
    rw [kept (by decide) (by decide)]
    unfold State.guardedWrite
    split <;> exact ⟨rfl, rfl⟩
  | 0 | 2 | 4 | 8 | 9 | 11 =>
    cases h
    rw [kept (by decide) (by decide)]
    exact ⟨rfl, rfl⟩
  | _ + 12 =>
    cases h
    rw [kept (by omega) (by omega)]
    exact ⟨rfl, rfl⟩

/-- R133, R139, R146: the host's access in a step, on a state in which `bus_rdata` has been cleared. -/
theorem hostCycle_reports {s b t : State} {k : Tick} {e : SysEdge} (hk : k.sys = some e) (hleft : LeftToSys (s.latch k) b)
    (hclear : b.io.busRdata = 0) (h : hostCycle b = .next t) :
    t.regs.reports = b.regs.reports.accessed e.bus ∧ t.io.busRdata = b.readback e.bus := by
  rw [hostCycle, hleft.busValid, hleft.busWord, busValid_latch s hk] at h
  cases hb : e.bus with
  | none =>
    rw [hb] at h
    cases h
    exact ⟨(Reports.accessed_of_no_clear _ (fun _ => rfl) rfl).symm, hclear⟩
  | some a =>
    rw [busWord_latch s hk hb, hb] at h
    change exec (decodeBus (BitVec.ofBool a.we ++ a.off) a.wdata) b = .next t at h
    rw [decodeBus_append] at h
    cases hwe : a.we with
    | false =>
      rw [hwe, if_neg (by decide), exec_decodeRead, BitVec.setWidth_ushiftRight_eq_extractLsb] at h
      cases h
      refine ⟨(Reports.accessed_of_no_clear _ (fun i => ?_) ?_).symm, ?_⟩
      · simp [clearsIrq, hwe]
      · simp [clearsStats, hwe]
      · simp [State.readback, hwe, State.driveRdata]
    | true =>
      rw [hwe, if_pos rfl] at h
      obtain ⟨hreports, hrdata⟩ := exec_decodeWrite_reports hwe h
      exact ⟨hreports, by simp [hrdata, State.readback, hwe]⟩

/-! ## The decoder (R113, R118, R121) -/

/-- The reports after the decoder has popped the condition `c` and put out `out`. -/
def Reports.popped (r : Reports) (c : Code) (out : DecOut) : Reports :=
  { r with
    condOvf := r.condOvf || c == codeOverflow
    framePushed := r.framePushed || out.frame?.isSome
    discardCnt := if out = .discard then satinc16 r.discardCnt else r.discardCnt
    violationCnt := if out = .violation then satinc16 r.violationCnt else r.violationCnt }

/-- What the decoder puts out for the condition `c` that it pops: nothing while it is disabled (R121). -/
def State.decOut (s : State) (c : Code) : DecOut := if s.regs.rxEn then (decEvent c s.dec).2 else .nothing

/-- In the step of `s` that ends in `t` the decoder makes of the reports `r` the reports `r'`: it pops nothing, or the head. -/
inductive DecReports (s t : State) (r : Reports) : Reports → Prop where
  | idle : t.cc.rcnt = s.cc.rcnt → t.fc.wcnt = s.fc.wcnt → DecReports s t r r
  | pop {c : Code} {more : List Code} : s.cc.buf = c :: more → t.cc.rcnt = s.cc.rcnt + 1 →
      t.fc.wcnt = s.fc.wcnt + (s.decOut c).frame?.toList.length → DecReports s t r (r.popped c (s.decOut c))

/-- R100: what a pop of the condition channel leaves. -/
theorem popCond_of_head {s : State} {c : Code} {rest : List Code} (hbuf : s.cc.buf = c :: rest) :
    ∃ u, s.popCond = some (c, u) ∧ u.cc.rcnt = s.cc.rcnt + 1 ∧ u.fc = s.fc ∧ u.params = s.params ∧ u.dec = s.dec ∧
      u.regs = s.regs ∧ u.io.busRdata = s.io.busRdata :=
  ⟨_, popCond_eq_some.mpr ⟨rest, hbuf, rfl⟩, rfl, rfl, rfl, rfl, rfl, rfl⟩

/-- R113, R118, R121: the report of a consumed condition. -/
theorem consumed_reports (s : State) (c : Code) (r : Dec × DecOut) :
    ((s.reportDrained c).applyDec r).regs.reports = s.regs.reports.popped c r.2 ∧
      ((s.reportDrained c).applyDec r).fc.wcnt = s.fc.wcnt + r.2.frame?.toList.length := by
  obtain ⟨d, out⟩ := r
  simp only [Regs.reports, Reports.popped]
  cases out with
  | nothing => simp [reportDrained_regs, DecOut.frame?]
  | frame f => simp [reportDrained_regs, DecOut.frame?, State.raiseFramePushed, State.pushFrame, Chan.push]
  | discard => simp [reportDrained_regs, DecOut.frame?, State.countDiscard]
  | violation => simp [reportDrained_regs, DecOut.frame?, State.countViolation]

/-- R121: the decoder's step on a state `a` that shows the head, the decoder and the room that its choice was made on. -/
theorem decoderCycle_reports {s a b : State} {pushed : List Code} (hbuf : a.cc.buf = s.cc.buf ++ pushed)
    (hrcnt : a.cc.rcnt = s.cc.rcnt) (hwcnt : a.fc.wcnt = s.fc.wcnt) (hdec : a.dec = s.dec) (hfull : a.fcFull = s.fcFull)
    (h : decoderCycle s.decAction a = .next b) :
    DecReports s b a.regs.reports b.regs.reports ∧ b.io.busRdata = a.io.busRdata := by
  obtain ⟨-, -, ha⟩ | ⟨-, -, ha⟩ | ⟨-, -, ha⟩ | ⟨-, c, more, hhead, hact⟩ := decAction_cases s
  case inl | inr.inl =>
    rw [ha] at h
    cases h
    exact ⟨.idle hrcnt hwcnt, rfl⟩
  case inr.inr.inl =>
    rw [ha] at h
    cases h
  case inr.inr.inr =>
    obtain ⟨u, hpop, hurcnt, hufc, hup, hudec, huregs, hurdata⟩ :=
      popCond_of_head (s := a) (c := c) (rest := more ++ pushed) (by rw [hbuf, hhead, List.cons_append])
    have popped {v : State} {r : Dec × DecOut} (hr : r.2 = s.decOut c)
        (hregs : v.regs = ((u.reportDrained c).applyDec r).regs) (hfc : v.fc = ((u.reportDrained c).applyDec r).fc)
        (hcc : v.cc = u.cc) : DecReports s v a.regs.reports v.regs.reports := by
      obtain ⟨hreports, hpushed⟩ := consumed_reports u c r
      rw [hregs, hreports, huregs, hr]
      exact .pop hhead (by rw [hcc, hurcnt, hrcnt]) (by rw [hfc, hpushed, hufc, hwcnt, hr])
    obtain ⟨hoff, ha⟩ | ⟨-, -, -, ha⟩ | ⟨hon, hroom, ha⟩ := hact <;> rw [ha] at h
    case inl =>
      simp only [decoderCycle, hpop] at h
      cases h
      have hout : DecOut.nothing = s.decOut c := by simp [State.decOut, hoff]
      exact ⟨popped (r := (u.dec, .nothing)) hout (by simp) (by simp) (by simp), by simp [hurdata]⟩
    case inr.inl =>
      cases h
      exact ⟨.idle hrcnt hwcnt, rfl⟩
    case inr.inr =>
      have hgoes : ¬(u.wouldEmit c && u.fcFull) = true := by
        have hemit : u.wouldEmit c = s.wouldEmit c := by rw [State.wouldEmit, hudec, hdec]; rfl
        have hroom' : u.fcFull = s.fcFull := by rw [State.fcFull, hufc, hup]; exact hfull
        rw [hemit, hroom']
        obtain hno | hno := hroom <;> simp [hno]
      simp only [decoderCycle, hpop, runWord_cond] at h
      rw [if_neg hgoes, hudec, hdec] at h
      cases h
      exact ⟨popped (by simp [State.decOut, hon]) rfl rfl (by simp), by simp [hurdata]⟩

/-- The decoder, enabled in `s`, has popped a condition by `t` and put out `out` for it. -/
def State.Counts (s t : State) (out : DecOut) : Prop :=
  s.regs.rxEn = true ∧ t.cc.rcnt ≠ s.cc.rcnt ∧ (decEvent (s.cc.buf.headD 0) s.dec).2 = out

section
variable {s t : State} {r r' : Reports} (h : DecReports s t r r')
include h

theorem DecReports.of_counts {u : State} (hrcnt : u.cc.rcnt = t.cc.rcnt) (hwcnt : u.fc.wcnt = t.fc.wcnt) :
    DecReports s u r r' := by
  cases h with
  | idle hr hw => exact .idle (hrcnt.trans hr) (hwcnt.trans hw)
  | pop hbuf hr hw => exact .pop hbuf (hrcnt.trans hr) (hwcnt.trans hw)

theorem DecReports.txDone : r'.txDone = r.txDone := by cases h <;> rfl

/-- R121: COND_OVF is set by the pop of a marker. -/
theorem DecReports.condOvf :
    r'.condOvf = (t.cc.rcnt != s.cc.rcnt && s.cc.buf.head? == some codeOverflow || r.condOvf) := by
  cases h with
  | idle hr hw => simp [hr]
  | pop hbuf hr hw =>
    have hmoved : (t.cc.rcnt != s.cc.rcnt) = true := bne_iff_ne.mpr (by omega)
    simp [hmoved, hbuf, Reports.popped, Bool.or_comm]

/-- R118: FRAME_PUSHED is set by the push of a frame. -/
theorem DecReports.framePushed : r'.framePushed = (t.fc.wcnt != s.fc.wcnt || r.framePushed) := by
  cases h with
  | idle hr hw => simp [hw]
  | pop hbuf hr hw =>
    rw [hw]
    simp only [Reports.popped, Bool.or_comm]
    cases (s.decOut _).frame? <;> simp

/-- R113, R118: each counter counts the decoder's output of its own kind. -/
theorem DecReports.counters :
    ((s.Counts t .violation → r'.violationCnt = satinc16 r.violationCnt) ∧
      (¬s.Counts t .violation → r'.violationCnt = r.violationCnt)) ∧
    (s.Counts t .discard → r'.discardCnt = satinc16 r.discardCnt) ∧
      (¬s.Counts t .discard → r'.discardCnt = r.discardCnt) := by
  cases h with
  | idle hr hw =>
    have never (out : DecOut) : ¬s.Counts t out := fun ⟨_, hmoved, _⟩ => hmoved hr
    exact ⟨⟨fun hc => absurd hc (never _), fun _ => rfl⟩, fun hc => absurd hc (never _), fun _ => rfl⟩
  | @pop c more hbuf hr hw =>
    have hout {out : DecOut} (hne : out ≠ .nothing) : s.decOut c = out ↔ s.Counts t out := by
      cases hen : s.regs.rxEn with
      | true => simp [State.decOut, State.Counts, hen, hr, hbuf]
      | false => simp [State.decOut, State.Counts, hen, hne.symm]
    rw [← hout (by decide), ← hout (by decide)]
    exact ⟨⟨fun hc => if_pos hc, fun hc => if_neg hc⟩, fun hc => if_pos hc, fun hc => if_neg hc⟩

end

/-! ## The transmitter (R128) -/

/-- A step at `now` that finds the transmitter `x` ends its telegram, for the unit `T`: the last segment's boundary is due. -/
def Tx.ends (x : Tx) (T : Nat) (now : Stamp) : Bool :=
  x.busy && decide (131 ≤ x.seg.toNat) && decide (segMul x.word x.seg.toNat * T ≤ (now - x.t0).toNat)

theorem Tx.ends_iff {x : Tx} {T : Nat} {now : Stamp} : x.ends T now = true ↔
    x.busy = true ∧ 131 ≤ x.seg.toNat ∧ segMul x.word x.seg.toNat * T ≤ (now - x.t0).toNat := by
  rw [Tx.ends, Bool.and_eq_true, Bool.and_eq_true, decide_eq_true_iff, decide_eq_true_iff, and_assoc]

/-- R128: the transmitter's step reports the end of a telegram. -/
theorem txCycle_reports {s t : State} (h : txCycle true s = .next t) : t.regs.reports = { s.regs.reports with
    txDone := s.tx.ends s.regs.tUs.toNat s.io.sysNow || s.regs.txDone } := by
  have hexec := (exec_txSegment s).symm.trans h
  have kept (hno : ¬s.tx.ends s.regs.tUs.toNat s.io.sysNow = true) : s.regs.reports = { s.regs.reports with
      txDone := s.tx.ends s.regs.tUs.toNat s.io.sysNow || s.regs.txDone } := by
    rw [Bool.eq_false_iff.mpr hno]
    rfl
  split at hexec
  case isFalse hnot =>
    cases hexec
    refine kept fun hends => ?_
    obtain ⟨hbusy, -, hdue⟩ := Tx.ends_iff.mp hends
    exact hnot ⟨hbusy, hdue⟩
  case isTrue hboundary =>
    obtain ⟨hbusy, hdue⟩ := hboundary
    split at hexec <;> cases hexec
    next hlast =>
      rw [Tx.ends_iff.mpr ⟨hbusy, hlast, hdue⟩]
      rfl
    next hnext =>
      refine kept fun hends => ?_
      obtain ⟨-, hlast, -⟩ := Tx.ends_iff.mp hends
      exact hnext hlast

theorem txCycle_io {busy : Bool} {s t : State} (h : txCycle busy s = .next t) : t.io = s.io := by
  obtain rfl | ⟨t0, rfl | ⟨-, -, rfl⟩⟩ := txCycle_outcome h <;> rfl

/-! ## The step -/

/-- R133, R139, R146: what a step of `s` that brings the edge `e` of `clk_sys` and ends in `t` shows on `bus_rdata`, and what it
makes of the reports: the host's access comes first, then the decoder, and then the transmitter. -/
structure HostStep (s t : State) (e : SysEdge) : Prop where
  busRdata : t.io.busRdata = s.readback e.bus
  reports : ∃ r, DecReports s t (s.regs.reports.accessed e.bus) r ∧
    t.regs.reports = { r with txDone := s.tx.ends s.regs.tUs.toNat e.now || r.txDone }

/-- The edge of `clk_sys` clears `bus_rdata`, whatever edges are tied to it. -/
theorem busRdata_latch (s : State) {k : Tick} {e : SysEdge} (hk : k.sys = some e) : (s.latch k).io.busRdata = 0 := by
  obtain ⟨rx, _, _ | _⟩ := k <;> cases hk <;> cases hb : e.bus <;>
    simp [State.latch, Ports.latchSys, Ports.latchCons, hb]

theorem HostStep.of_eq {s u t : State} {e : SysEdge} (h : HostStep s u e) (hio : t.io = u.io) (hregs : t.regs = u.regs)
    (hrcnt : t.cc.rcnt = u.cc.rcnt) (hwcnt : t.fc.wcnt = u.fc.wcnt) : HostStep s t e := by
  obtain ⟨r, hdec, hreports⟩ := h.reports
  exact ⟨hio ▸ h.busRdata, r, hdec.of_counts hrcnt hwcnt, hregs ▸ hreports⟩

/-- R133: the tied clocks have left what `bus_rdata` is to show. -/
theorem Tied.readback {s b : State} {pushed : List Code} {popped : List Word} (h : Tied s b pushed popped)
    (bus : Option BusAccess) : b.readback bus = s.readback bus := by
  cases bus with
  | none => rfl
  | some a => simp only [State.readback, h.regval]

/-- R128: while a telegram is being sent, the host's access and the decoder leave what the transmitter's step reads. -/
theorem txDone_after {s a d t : State} {bus : Option BusAccess} (hbusy : s.tx.busy = true) (hacc : Accessed s a bus)
    {s0 : State} (hdec : decoderCycle s0.decAction a = .next d) (h : txCycle true d = .next t) :
    t.regs.reports = { d.regs.reports with
      txDone := s.tx.ends s.regs.tUs.toNat s.io.sysNow || d.regs.txDone } := by
  obtain ⟨htx, hnow, -, hunit⟩ := decoderCycle_leaves_tx hdec
  have htxa : a.tx = s.tx := hacc.tx.trans (if_neg (by simp [hbusy]))
  rw [txCycle_reports h, htx, htxa, hunit, hacc.unit (.inl hbusy), hnow, hacc.now]

/-- R149: the host's access, the decoder and the transmitter, each on what the one before it has left. -/
theorem sysCycle_hostStep {s b t : State} {k : Tick} {e : SysEdge} {pushed : List Code} {popped : List Word}
    (hk : k.sys = some e) (hb : Tied (s.latch k) b pushed popped) (h : sysCycle (s.latch k) b = .next t) :
    HostStep s t e := by
  obtain ⟨a, d, hhost, hdec, htx⟩ := sysCycle_eq_next.mp h
  obtain ⟨hacc, hrdata⟩ := hostCycle_reports hk hb.left (hb.busRdata.trans (busRdata_latch s hk)) hhost
  obtain ⟨hcc, hfc, hparams⟩ := hostCycle_channels hhost
  have hadec : a.dec = s.dec := by
    obtain ⟨r, x, p, rfl, -⟩ := hostCycle_effect hhost
    exact hb.left.dec
  have hbuf : a.cc.buf = s.cc.buf ++ pushed := by simpa [hcc] using hb.ran.cond.entries.symm
  have hfull : a.fcFull = s.fcFull := by rw [State.fcFull, hfc, hparams]; exact hb.fcFull
  have hreports : a.regs.reports = s.regs.reports.accessed e.bus := hb.left.regs ▸ hacc
  obtain ⟨hdecReports, hdrdata⟩ := decoderCycle_reports (s := s) hbuf (hcc ▸ hb.ran.cond.rcnt) (hfc ▸ hb.ran.frame.wcnt)
    hadec hfull hdec
  obtain ⟨htcc, htfc⟩ := txCycle_channels htx
  refine ⟨?busRdata, d.regs.reports, hreports ▸ hdecReports.of_counts (by rw [htcc]) (by rw [htfc]), ?txDone⟩
  case busRdata => rw [txCycle_io htx, hdrdata, hrdata, hb.readback]; rfl
  case txDone =>
    have hsame : b.tx = s.tx ∧ b.regs = s.regs := ⟨hb.left.tx, hb.left.regs⟩
    cases hbusy : s.tx.busy with
    | false =>
      have hidle : (s.latch k).tx.busy = false := hbusy
      rw [hidle] at htx
      cases htx
      rw [Tx.ends, hbusy]
      rfl
    | true =>
      have hsends : (s.latch k).tx.busy = true := hbusy
      rw [hsends] at htx
      rw [txDone_after (hsame.1 ▸ hbusy) (hostCycle_accessed hk hb.left hhost) hdec htx, hsame.1, hsame.2, hb.sysNow,
        sysNow_latch s hk]
      rfl

theorem clockStep_hostStep {s t : State} {k : Tick} {e : SysEdge} (hk : k.sys = some e) (h : clockStep s k = .next t) :
    HostStep s t e := by
  obtain ⟨u, hops, rfl⟩ := clockStep_eq_next.mp h
  obtain ⟨b, pushed, popped, hb, hsys⟩ := tickOps_tied hk hops
  obtain ⟨hcc, hfc⟩ := shiftAll_moved (s.latch k) u k
  exact (sysCycle_hostStep hk hb hsys).of_eq (by simp) (by simp) hcc.rcnt hfc.wcnt

/-- R149: a placed edge of `clk_sys`, and the host's registers. -/
theorem step_hostStep {s t : State} {k : Tick} {e : SysEdge} {rest : List Move} (hm : s.moves = .clock k :: rest)
    (hr : s.io.rst = false) (hk : k.sys = some e) (h : step s = .next t) : HostStep s t e := by
  rw [step_clock hm hr] at h
  obtain ⟨hrdata, r, hdec, hreports⟩ := clockStep_hostStep hk h
  refine ⟨hrdata, r, ?_, hreports⟩
  cases hdec with
  | idle hr hw => exact .idle hr hw
  | pop hbuf hr hw => exact .pop hbuf hr hw

end Sys2Proof.Machine

section
open Sys2Proof Sys2Proof.Machine

/-- Settles O17: a read drives its register's value, and a step shows the access's on its start. -/
theorem busRdataCarriesTheRegister : Obligations.BusRdataCarriesTheRegister := by
  refine ⟨fun s off => ?read, fun s t k e rest hm hr hk h => (step_hostStep hm hr hk h).busRdata⟩
  case read =>
    rw [exec_decodeRead, BitVec.setWidth_ushiftRight_eq_extractLsb]
    rfl

/-- Settles O10: a bit of IRQ_STATUS by the access, the decoder and the transmitter in turn. -/
theorem irqStatusSetBeatsClear : Obligations.IrqStatusSetBeatsClear := by
  refine ⟨fun s x v => ⟨⟨s.irqStatusWord, rfl, ?_⟩, rfl, rfl, rfl⟩, fun s t k e rest hm hr hk h => ?step,
    rfl, rfl, rfl⟩
  · have bit := getLsbD_irqStatusWord s
    exact ⟨bit 0, bit 1, bit 2, extractLsb'_eq_zero fun i hi => by rw [bit]; grind⟩
  case step =>
    intro clear
    obtain ⟨r, hdec, hreports⟩ := (step_hostStep hm hr hk h).reports
    refine ⟨?txDone, ?condOvf, ?framePushed⟩
    case txDone =>
      exact (congrArg Reports.txDone hreports).trans (congrArg (s.tx.ends s.regs.tUs.toNat e.now || ·) hdec.txDone)
    case condOvf => exact (congrArg Reports.condOvf hreports).trans hdec.condOvf
    case framePushed => exact (congrArg Reports.framePushed hreports).trans hdec.framePushed

/-- Settles O15: a counter by the access and then by what the decoder puts out. -/
theorem decStatsCountSurvivesTheClear : Obligations.DecStatsCountSurvivesTheClear := by
  refine ⟨fun s x v => ⟨⟨s.decStatsWord, rfl, BitVec.extractLsb'_append_eq_right, BitVec.extractLsb'_append_eq_left⟩,
    rfl, rfl, rfl⟩, fun s t k e rest hm hr hk h => ?step, rfl, rfl⟩
  case step =>
    intro cleared base bump counts
    obtain ⟨r, hdec, hreports⟩ := (step_hostStep hm hr hk h).reports
    obtain ⟨hviolation, hdiscard⟩ := hdec.counters
    have hv : t.regs.violationCnt = r.violationCnt := congrArg Reports.violationCnt hreports
    have hd : t.regs.discardCnt = r.discardCnt := congrArg Reports.discardCnt hreports
    rw [satinc16_eq] at hviolation hdiscard
    rw [hv, hd]
    exact ⟨hviolation.1, hviolation.2, hdiscard.1, hdiscard.2⟩

end
end

section
/-! PROOF. COND_DROP_CNT (R29, R145): a register word by its halves, and a counter that no step but an assertion of `rst` lowers.
O14. -/

namespace Sys2Proof.Machine

/-- R104: the receive side's step counts a drop at most. -/
theorem rxCycle_dropCnt_le {s t : State} (h : rxCycle s = .next t) : s.rx.dropCnt.toNat ≤ t.rx.dropCnt.toNat := by
  obtain rfl | ⟨o, rfl, ho⟩ := rxCycle_outcome h
  · exact le_rfl
  · have hdrop : o.2.dropCnt = s.rx.dropCnt := by
      obtain rfl | rfl := ho
      exacts [detEvent_dropCnt _ _ _ _, detTimeout_dropCnt _ _ _]
    exact hdrop ▸ (writeSide_rx (s.setRx o.2) o.1).2

/-- R29: of the cycles of a tick only the receive side's touches the counter. -/
theorem clockStep_dropCnt_le {s t : State} {k : Tick} (h : clockStep s k = .next t) :
    s.rx.dropCnt.toNat ≤ t.rx.dropCnt.toNat := by
  obtain ⟨u, hops, rfl⟩ := clockStep_eq_next.mp h
  obtain ⟨a, b, hcons, hrx, hsys⟩ := tickOps_eq_next.mp hops
  have ha : a.rx = s.rx := (edge_cases hcons).elim (fun hc => (consCycle_sameReceive hc).rx) fun heq => heq ▸ rfl
  have hb : a.rx.dropCnt.toNat ≤ b.rx.dropCnt.toNat := (edge_cases hrx).elim rxCycle_dropCnt_le fun heq => heq ▸ le_rfl
  have hu : u.rx = b.rx := (edge_cases hsys).elim sysCycle_rx fun heq => heq ▸ rfl
  have hshift : ((s.latch k).shiftAll u k).rx.dropCnt = u.rx.dropCnt := by
    rw [shiftAll_rx]
    cases k.rx <;> rfl
  rw [settle_rx, hshift, hu, ← ha]
  exact hb

theorem step_dropCnt_le {s t : State} (hm : s.takeMove.1 ≠ .rst true) (h : step s = .next t) :
    s.rx.dropCnt.toNat ≤ t.rx.dropCnt.toNat := by
  obtain ⟨ms, n, htake⟩ := takeMove_eq s
  have hrx : s.takeMove.2.rx = s.rx := by rw [htake]; rfl
  rw [← hrx]
  obtain ⟨l, -, rfl⟩ | ⟨hrst, -⟩ | ⟨-, rfl⟩ | ⟨k, -, -, rfl⟩ | ⟨k, -, -, hk⟩ := applyMove_cases h
  case inl | inr.inr.inl | inr.inr.inr.inl => exact le_rfl
  case inr.inl => exact absurd hrst hm
  case inr.inr.inr.inr => exact clockStep_dropCnt_le hk

end Sys2Proof.Machine

section
open Sys2Proof Sys2Proof.Machine

/-- Settles O14: the view under 16 zeros, and every move but an assertion of `rst`. -/
theorem condDropCntShowsTheView : Obligations.CondDropCntShowsTheView :=
  ⟨fun s _ _ => ⟨⟨s.condDropCntWord, rfl, BitVec.extractLsb'_append_eq_right, BitVec.extractLsb'_append_eq_left⟩,
    rfl, rfl, rfl⟩, fun _ _ => step_dropCnt_le⟩

end
end

section
/-! PROOF. Nothing stops a clock domain (R151), and the interrupt output (R154). A step could stop only at a pop of an entry that
the storage does not hold: with a channel safe (R102) a reader's view shows no such entry at the start of a step, and of the
cycles that run before a pop none takes from the channel that it pops. O58, O18. -/

namespace Sys2Proof.Machine

/-- R102: what the reader of a safe channel sees is in the storage. -/
theorem Chan.buf_ne_nil_of_safe {w stages depth : Nat} {c : Chan w} (h : c.safe stages depth = true) (hpos : 0 < stages)
    (hseen : c.emptyR = false) : c.buf ≠ [] := by
  obtain ⟨-, hrw, hww, -, hlen⟩ := Chan.counts_of_safe h hpos
  have hvisible : c.wview ≠ c.rcnt := beq_eq_false_iff_ne.mp hseen
  exact List.ne_nil_of_length_pos (by omega)

/-! ## The cycles of `clk_sys` give a next state -/

/-- R133, R134: the host's access always goes on. -/
theorem hostCycle_next (s : State) : ∃ t, hostCycle s = .next t := by
  unfold hostCycle
  split
  · obtain ⟨t, -, ht, -⟩ := exec_decodeBus_regs (BitVec.ofBool s.io.busWe ++ s.io.busOff) s.io.busWdata
      (rfl : s.regs = s.regs) rfl
    exact ⟨t, ht⟩
  · exact ⟨s, rfl⟩

/-- R121: the decoder goes on if what the start of the step shows it is in the storage, where nothing but pushes may have
come in between. -/
theorem decoderCycle_next {s0 s : State} {pushed : List Code} (hheld : s0.cc.emptyR = false → s0.cc.buf ≠ [])
    (hmoved : s0.cc.Moved s.cc pushed []) : ∃ t, decoderCycle s0.decAction s = .next t := by
  obtain ⟨-, -, ha⟩ | ⟨-, -, ha⟩ | ⟨hseen, hbuf, -⟩ | ⟨-, c, rest, hbuf, hhead⟩ := decAction_cases s0
  case inl | inr.inl => exact ha ▸ ⟨_, rfl⟩
  case inr.inr.inl => exact absurd hbuf (hheld hseen)
  case inr.inr.inr =>
    have hhere : s.cc.buf = c :: (rest ++ pushed) := by simpa [hbuf] using hmoved.entries.symm
    obtain ⟨-, ha⟩ | ⟨-, -, -, ha⟩ | ⟨-, -, ha⟩ := hhead <;> rw [ha]
    · exact ⟨_, decoderCycle_drain hhere⟩
    · exact ⟨s, rfl⟩
    · simp only [decoderCycle, popCond_eq_some.mpr ⟨_, hhere, rfl⟩, runWord_cond]
      exact ⟨_, rfl⟩

/-- R149: the host, the decoder and the transmitter in turn. -/
theorem sysCycle_next {s0 s : State} {pushed : List Code} (hheld : s0.cc.emptyR = false → s0.cc.buf ≠ [])
    (hmoved : s0.cc.Moved s.cc pushed []) : ∃ t, sysCycle s0 s = .next t := by
  obtain ⟨a, ha⟩ := hostCycle_next s
  obtain ⟨hcc, -⟩ := hostCycle_channels ha
  obtain ⟨b, hb⟩ := decoderCycle_next hheld (hcc.symm ▸ hmoved)
  obtain ⟨t, ht⟩ := txCycle_next s0.tx.busy b
  exact ⟨t, sysCycle_eq_next.mpr ⟨a, b, ha, hb, ht⟩⟩

/-! ## Every move gives a next state -/

/-- R5, R151: whatever domains have an edge, their operations go on if both readers see only what is in the storage. -/
theorem tickOps_next {s0 : State} (k : Tick) (hcond : s0.cc.emptyR = false → s0.cc.buf ≠ [])
    (hframe : s0.fc.emptyR = false → s0.fc.buf ≠ []) : ∃ t, tickOps s0 k = .next t := by
  obtain ⟨a, _, ha, -, hcons, -⟩ := consEdge_next k.cons hframe
  obtain ⟨b, _, hb, -, hrx, -⟩ := rxEdge_next a k.rx
  have hsys : ∃ t, (if k.sys.isSome then sysCycle s0 b else .next b) = .next t := by
    split
    · exact sysCycle_next hcond (hcons.trans hrx).cond
    · exact ⟨b, rfl⟩
  obtain ⟨t, ht⟩ := hsys
  exact ⟨t, tickOps_eq_next.mpr ⟨a, b, ha, hb, ht⟩⟩

/-- R102, R151: from a state with the invariant clock edges give a next state. -/
theorem clockStep_next {s : State} (hi : Inv s) (k : Tick) : ∃ t, clockStep s k = .next t := by
  have hpos := hi.syncStages_pos
  obtain ⟨u, hu⟩ := tickOps_next (s0 := s.latch k) k (Chan.buf_ne_nil_of_safe hi.cond hpos)
    (Chan.buf_ne_nil_of_safe hi.frame hpos)
  exact ⟨_, clockStep_eq_next.mpr ⟨u, hu, rfl⟩⟩

/-- R151, R166: so does every move of the environment. -/
theorem applyMove_next {s : State} (hi : Inv s) (m : Move) : ∃ t, applyMove m s = .next t := by
  match m with
  | .line _ | .rst true | .rst false => exact ⟨_, rfl⟩
  | .clock k =>
    simp only [applyMove]
    split
    · exact ⟨s, rfl⟩
    · exact clockStep_next hi k

end Sys2Proof.Machine

section
open Sys2Proof Sys2Proof.Machine

/-- Settles O58: the next move, placed or free, leaves the invariant to the state that it acts on. -/
theorem nothingStopsTheBlock : Obligations.NothingStopsTheBlock := by
  intro s hi
  obtain ⟨ms, n, htake⟩ := takeMove_eq s
  have hi' : Inv s.takeMove.2 := htake ▸ { hi with }
  exact applyMove_next hi' s.takeMove.1

/-- Settles O18: the output's OR, bit by bit. -/
theorem irqIsTheEnabledOr : Obligations.IrqIsTheEnabledOr := by
  intro s
  simp only [State.irq, Bool.or_eq_true, Bool.and_eq_true, or_assoc]

end
end

section
/-! PROOF. The reset (R166, R167): what a placed move of `rst` or of the line makes of the state, and what the views, the
flags and the registers, as functions of the state, show right after reset. O54, O55 and O56. -/

namespace Sys2Proof.Machine

/-! ## Placed moves (R6, R166) -/

theorem step_of_moves {s : State} {m : Move} {rest : List Move} (h : s.moves = m :: rest) :
    step s = applyMove m (s.setMoves rest) := by
  rw [step_eq, takeMove_of_moves h]

/-- R166: while `rst` is 1 no domain steps. -/
theorem applyMove_clock_of_rst {s : State} (k : Tick) (hr : s.io.rst = true) : applyMove (.clock k) s = .next s :=
  if_pos hr

/-! ## The views and the flags right after reset (R98, R107, R138, R167) -/

theorem getLastD_replicate_self {α : Type} (n : Nat) (a : α) : (List.replicate n a).getLastD a = a := by
  cases n with
  | zero => rfl
  | succ n => exact getLastD_eq_of_getElem? (by simp)

theorem isDepth_pos {n : Nat} (h : isDepth n = true) : 0 < n := by
  simp only [isDepth, Bool.and_eq_true, decide_eq_true_eq] at h
  omega

theorem Chan.wview_reset (w : Nat) (p : Params) : (Chan.reset w p).wview = 0 := getLastD_replicate_self p.syncStages 0

theorem Chan.rview_reset (w : Nat) (p : Params) : (Chan.reset w p).rview = 0 := getLastD_replicate_self p.syncStages 0

/-- R98: a channel is empty for its reader right after reset. -/
theorem Chan.emptyR_reset (w : Nat) (p : Params) : (Chan.reset w p).emptyR = true :=
  beq_iff_eq.mpr (Chan.wview_reset w p)

/-- R98: it is not full for its writer, since its depth is not 0. -/
theorem Chan.fullW_reset (w : Nat) (p : Params) {depth : Nat} (hpos : 0 < depth) :
    (Chan.reset w p).fullW depth = false := by
  have hroom : (Chan.reset w p).wcnt ≠ (Chan.reset w p).rview + depth := by
    rw [Chan.rview_reset, Nat.zero_add]
    exact hpos.ne
  exact beq_eq_false_iff_ne.mpr hroom

section
variable (p : Params)

theorem fcFull_resetWith (hp : legalParams p = true) : (State.resetWith p).fcFull = false := by
  simp only [legalParams, Bool.and_eq_true] at hp
  obtain ⟨-, hdepth⟩ := hp
  exact Chan.fullW_reset 32 p (isDepth_pos hdepth)

theorem frameValid_resetWith : (State.resetWith p).frameValid = false :=
  congrArg not (Chan.emptyR_reset 32 p)

/-- R108: without a frame the consumer port shows zero. -/
theorem frameData_resetWith : (State.resetWith p).frameData = 0 :=
  if_neg (Bool.eq_false_iff.mp (frameValid_resetWith p))

/-- R59, R138: no stage of `rx_active_s` is up, and no condition waits. -/
theorem rxActive_resetWith : (State.resetWith p).rxActive = false := by
  have hview : (State.resetWith p).activeView = false := getLastD_replicate_self (p.syncStages + 1) false
  have hwaits : ((State.resetWith p).cc.wview != (State.resetWith p).cc.rcnt) = false :=
    congrArg not (Chan.emptyR_reset 4 p)
  rw [State.rxActive, hview, hwaits, Bool.or_false]

/-- R138: of STATUS only COND_EMPTY is 1 right after reset. -/
theorem statusWord_resetWith (hp : legalParams p = true) : (State.resetWith p).statusWord = 0x10#32 := by
  have hempty : (State.resetWith p).cc.emptyR = true := Chan.emptyR_reset 4 p
  have hdec : (State.resetWith p).dec = Dec.reset := rfl
  have htx : (State.resetWith p).tx = Tx.reset := rfl
  rw [State.statusWord, hempty, fcFull_resetWith p hp, rxActive_resetWith p, hdec, htx]
  decide

theorem condDropCntWord_resetWith : (State.resetWith p).condDropCntWord = 0 := by
  have hview : (State.resetWith p).dropView = 0 := getLastD_replicate_self p.syncStages 0
  rw [State.condDropCntWord, hview]
  rfl

/-- R133, R167: every register reads the same right after reset, whatever the parameters: only STATUS and COND_DROP_CNT
look at more than `Regs.reset`. -/
theorem regval_resetWith (hp : legalParams p = true) (slot : BitVec 4) :
    (State.resetWith p).regval slot = State.reset.regval slot := by
  have hstatus : (State.resetWith p).statusWord = State.reset.statusWord :=
    (statusWord_resetWith p hp).trans (statusWord_resetWith defaultParams rfl).symm
  have hdrop : (State.resetWith p).condDropCntWord = State.reset.condDropCntWord :=
    (condDropCntWord_resetWith p).trans (condDropCntWord_resetWith defaultParams).symm
  rw [State.regval, State.regval, hstatus, hdrop]
  rfl

end

end Sys2Proof.Machine

section
open Sys2Proof Sys2Proof.Machine

/-- Settles O54: a placed move acts on the state without it, and each kind of move gives its next state outright. -/
theorem rstResetsEveryElement : Obligations.RstResetsEveryElement := by
  refine ⟨fun s rest hm => ⟨(s.setMoves rest).assertRst, step_of_moves hm, ?_⟩, ?_, ?_⟩
  · and_intros <;> rfl
  · intro s k rest hm hr
    exact (step_of_moves hm).trans (applyMove_clock_of_rst k hr)
  · rintro s m rest hm (rfl | ⟨l, rfl⟩)
    case inl =>
      refine ⟨_, step_of_moves hm, rfl, rfl, rfl, rfl, rfl, rfl, rfl, rfl, rfl, rfl, fun _ => rfl, fun _ hline => ?_⟩
      cases hline
    case inr =>
      refine ⟨_, step_of_moves hm, rfl, rfl, rfl, rfl, rfl, rfl, rfl, rfl, rfl, rfl, fun hrst => ?_, fun _ hline => ?_⟩
      · cases hrst
      · cases hline
        rfl

/-- Settles O55: the elements are those of `State.resetWith`, the consumer port sees an empty channel, and the registers
read as they do for the default parameters. -/
theorem resetValues : Obligations.ResetValues := by
  refine ⟨rfl, fun p hp => ⟨?receive, ?channels, ?views, ?decoder, ?transmitter, ?outputs, ?registers⟩⟩
  case receive | channels | views | decoder | transmitter => and_intros <;> rfl
  case outputs => exact ⟨rfl, frameValid_resetWith p, frameData_resetWith p, rfl⟩
  case registers =>
    simp only [regval_resetWith p hp]
    decide

/-- Settles O56: the defaults of R10 are a legal choice. -/
theorem invariantHoldsAtReset : Obligations.InvariantHoldsAtReset :=
  have hdefaults : legalParams defaultParams = true := by decide
  ⟨inv_resetWith hdefaults, fun _ => inv_resetWith⟩

end
end
